-- ==== Sys2Proof/Word.lean ====
section
/-! DEFINITION. The words, the index types and the fixed-length tables of the LSC-8 model. -/

namespace Sys2Proof

/-- One byte of a trunk message, and every 8-bit value of the part. -/
abbrev Byte := BitVec 8

/-- A 16-bit value: time stamps, the generation, the 16-bit counters. -/
abbrev Word := BitVec 16

/-- A frame tag, 0 to 7 (R109). -/
abbrev Tag := BitVec 3

/-- Ports 0 to 7 (Table 0-3). -/
abbrev PortIx := Fin 8

/-- Service levels 0 to 15. -/
abbrev LevelIx := Fin 16

/-- Bands 0 to 3. -/
abbrev BandIx := Fin 4

/-- Selector entries 0 to 47. -/
abbrev EntryIx := Fin 48

/-- Tallies 0 to 7. -/
abbrev TallyIx := Fin 8

/-- Signal outputs 0 to 3. -/
abbrev OutputIx := Fin 4

/-- Patterns 0 to 15. -/
abbrev PatternIx := Fin 16

/-- A table with the item at `i` replaced by `f` of it. -/
def update {α : Type} {n : Nat} (v : Vector α n) (i : Fin n) (f : α → α) : Vector α n :=
  v.set i (f v[i])

/-- A table with every item replaced by `f` of it. -/
def mapAll {α β : Type} {n : Nat} (f : α → β) (v : Vector α n) : Vector β n :=
  ⟨⟨v.toList.map f⟩, by simp⟩

/-- The table whose item at `i` is `f i`. -/
def tabulate {α : Type} {n : Nat} (f : Fin n → α) : Vector α n := ⟨⟨List.ofFn f⟩, by simp⟩

/-- The high byte of a 16-bit value. -/
def hiByte (w : Word) : Byte := w.extractLsb' 8 8

/-- The low byte of a 16-bit value. -/
def loByte (w : Word) : Byte := w.extractLsb' 0 8

/-- The 16-bit value of two bytes, high byte first (R194). -/
def wordOf (hi lo : Byte) : Word := hi ++ lo

/-- A counter that stops at its upper bound (section 0.7, "saturating"). -/
def satInc {n : Nat} (c : BitVec n) : BitVec n := if c = BitVec.allOnes n then c else c + 1

end Sys2Proof
end

