-- ==== Sys2Proof/Config.lean ====
section
/-! DEFINITION. The capacities that the part fixes (Table 0-3), and the one value the spec leaves open. -/

namespace Sys2Proof.Config

/-- Entries of the control lane, queued messages and reservations together (R169). -/
def controlEntries : Nat := 16

/-- Messages the relay lane holds (R171). -/
def relayEntries : Nat := 24

/-- Frames an intake holds, and entries a transmit queue holds (R141, R143). -/
def portEntries : Nat := 4

/-- The intake fill at which BACKPRESSURE stands (R142). -/
def backpressureFill : Nat := 3

/-- Attempts made on one transmit-queue entry (R146). -/
def maxAttempts : Nat := 3

/-- The line-error run that faults a port (R138). -/
def lineErrorLimit : Nat := 8

/-- The send-failure run that faults a port (R138). -/
def sendFailureLimit : Nat := 4

/-- The control messages that may begin in a row while RELAYs wait (R168). -/
def controlRunLimit : Nat := 8

/-- The probe interval in milliseconds (R134). -/
def probeInterval : Nat := 250

/-- DESIGN CHOICE (log 9), safe: a free value. The hold reason bits that READ_PORT reports for a line
that is HELD while no reason stands, which the spec does not state (R112, R120, R154). It is applied to
`State.freeReads`, so that each reading is a fresh value. -/
opaque openHoldReason : Nat → BitVec 2

end Sys2Proof.Config
end

