-- ==== Sys2Proof/Syntax.lean ====
section
/-! DEFINITION. The commands of the LSC-8: one constructor per row of spec/opcode_table.json. -/

namespace Sys2Proof

/-- An edge that the endpoint makes on CLK (R108). -/
inductive Edge where
  | falling
  | rising
deriving DecidableEq, Repr

/-- The commands: what the host, the endpoints, the pins and the part's own timers and engines do to the
part, one whole step each (spec/95_what_each_step_holds.md).

A trunk message is one row with the message's fields as operands. A COMMAND row carries the Sequence and the
argument bytes after the command code, of any number, so that BAD_LENGTH and RANGE forms are forms of the row;
where the row's name fixes the scope, the operation or the action, the row carries the other argument bytes
(log 19). Wire levels are `true` for high. -/
inductive Instr where
  /-- COLD_RESET (R177): power-up, or RSTN driven low. -/
  | coldReset
  /-- BREAK_DETECTED (R165): TRX has been at space for 20 ms. -/
  | breakDetected
  /-- BREAK_END (R165): TRX returns to mark after a break. -/
  | breakEnd
  /-- LENGTH_ERROR (R161): a Length byte below 2 or above 42 completes. -/
  | lengthError
  /-- GAP_ABORT (R162): 5 ms pass without a complete character in BODY. -/
  | gapAbort
  /-- CHECK_ERROR (R163): a damaged message, or one whose check does not match, reaches its end. -/
  | checkError
  /-- MALFORMED (R164): a valid message that fails the form check. -/
  | malformed (type sequence : Byte) (payload : List Byte)
  /-- TAKE (R32, R33). -/
  | take (number : Byte)
  /-- DONE (R43). -/
  | done (value : Byte)
  /-- DONE naming CURRENT (R44). -/
  | doneCurrent
  /-- RECALL (R47). -/
  | recall (value : Byte)
  /-- SEND (R144, R183): the four payload bytes. -/
  | send (sequence port tag data confirm : Byte)
  /-- COMMAND_UNKNOWN (R185): a COMMAND that no other row names. -/
  | commandUnknown (sequence code : Byte) (arguments : List Byte)
  /-- IDENTIFY (R186). -/
  | identify (sequence : Byte) (arguments : List Byte)
  /-- GET_STATUS (R188). -/
  | getStatus (sequence : Byte) (arguments : List Byte)
  /-- SET_LINK (R189). -/
  | setLink (sequence : Byte) (arguments : List Byte)
  /-- RESET of scope ARBITER (R190): the argument bytes after the scope. -/
  | resetArbiter (sequence : Byte) (rest : List Byte)
  /-- RESET of scope TRAFFIC (R190): the argument bytes after the scope. -/
  | resetTraffic (sequence : Byte) (rest : List Byte)
  /-- RESET of scope CONFIG (R190): the argument bytes after the scope. -/
  | resetConfig (sequence : Byte) (rest : List Byte)
  /-- CONFIGURE_LEVEL (R21). -/
  | configureLevel (sequence : Byte) (arguments : List Byte)
  /-- CONFIGURE_BAND (R21). -/
  | configureBand (sequence : Byte) (arguments : List Byte)
  /-- SET_MASKS, operation ASSIGN (R22): the argument bytes after the operation. -/
  | setMasksAssign (sequence : Byte) (rest : List Byte)
  /-- SET_MASKS, operation MASK (R22): the argument bytes after the operation. -/
  | setMasksMask (sequence : Byte) (rest : List Byte)
  /-- SET_MASKS, operation UNMASK (R22): the argument bytes after the operation. -/
  | setMasksUnmask (sequence : Byte) (rest : List Byte)
  /-- ASSERT_LEVEL (R23). -/
  | assertLevel (sequence : Byte) (arguments : List Byte)
  /-- WITHDRAW_LEVEL (R23). -/
  | withdrawLevel (sequence : Byte) (arguments : List Byte)
  /-- READ_LEVEL (R23). -/
  | readLevel (sequence : Byte) (arguments : List Byte)
  /-- SET_ARBITER (R48). -/
  | setArbiter (sequence : Byte) (arguments : List Byte)
  /-- READ_ARBITER (R49). -/
  | readArbiter (sequence : Byte) (arguments : List Byte)
  /-- LOAD_SELECTOR (R72). -/
  | loadSelector (sequence : Byte) (arguments : List Byte)
  /-- CLEAR_SHADOW (R73). -/
  | clearShadow (sequence : Byte) (arguments : List Byte)
  /-- COPY_ACTIVE (R74). -/
  | copyActive (sequence : Byte) (arguments : List Byte)
  /-- COMMIT_SELECTORS (R75). -/
  | commitSelectors (sequence : Byte) (arguments : List Byte)
  /-- READ_SELECTOR (R76). -/
  | readSelector (sequence : Byte) (arguments : List Byte)
  /-- CONFIGURE_TALLY (R87). -/
  | configureTally (sequence : Byte) (arguments : List Byte)
  /-- READ_TALLY (R88). -/
  | readTally (sequence : Byte) (arguments : List Byte)
  /-- LOAD_PATTERN (R92). -/
  | loadPattern (sequence : Byte) (arguments : List Byte)
  /-- START_SIGNAL (R97). -/
  | startSignal (sequence : Byte) (arguments : List Byte)
  /-- STOP_SIGNAL (R104). -/
  | stopSignal (sequence : Byte) (arguments : List Byte)
  /-- READ_SIGNAL (R105). -/
  | readSignal (sequence : Byte) (arguments : List Byte)
  /-- CONFIGURE_PORT (R151). -/
  | configurePort (sequence : Byte) (arguments : List Byte)
  /-- PORT_CONTROL, action ENABLE (R152): the port byte and the bytes after the action. -/
  | portControlEnable (sequence port : Byte) (rest : List Byte)
  /-- PORT_CONTROL, action DISABLE (R152): the port byte and the bytes after the action. -/
  | portControlDisable (sequence port : Byte) (rest : List Byte)
  /-- PORT_CONTROL, action PROBE_NOW (R153): the port byte and the bytes after the action. -/
  | portControlProbeNow (sequence port : Byte) (rest : List Byte)
  /-- PORT_CONTROL, action FLUSH_TX (R153): the port byte and the bytes after the action. -/
  | portControlFlushTx (sequence port : Byte) (rest : List Byte)
  /-- READ_PORT (R154). -/
  | readPort (sequence : Byte) (arguments : List Byte)
  /-- OFFER (R27). -/
  | offer
  /-- TAKE_TIMER_EXPIRY (R39). -/
  | takeTimerExpiry
  /-- CLASSIFY (R58, R60). -/
  | classify
  /-- PHASE_END (R98). -/
  | phaseEnd (output : OutputIx)
  /-- INBOUND_FRAME (R115): the end of an inbound acknowledge slot. -/
  | inboundFrame (port : PortIx)
  /-- FRAME_BROKEN (R118): 2 ms without a CLK edge in an inbound frame. -/
  | frameBroken (port : PortIx)
  /-- PROBE_TIMER_EXPIRY (R134). -/
  | probeTimerExpiry (port : PortIx)
  /-- PROBE (R134): the port looks at its line, whose wires stand at these levels. -/
  | probe (port : PortIx) (clkHigh dataHigh : Bool)
  /-- REQUEST_TO_SEND (R120): the line looks at its wires, which stand at these levels. -/
  | requestToSend (port : PortIx) (clkHigh dataHigh : Bool)
  /-- START_BIT (R120): CLK has been held low for 100 µs. -/
  | startBit (port : PortIx)
  /-- ATTEMPT_OUTCOME (R121, R146): the end of an outbound acknowledge slot. -/
  | attemptOutcome (port : PortIx)
  /-- NO_RESPONSE (R122): the response limit or the clock gap limit of an attempt passes. -/
  | noResponse (port : PortIx)
  /-- CUT_END (R123): CLK has been held low for 100 µs after a cut. -/
  | cutEnd (port : PortIx)
  /-- SILENCE_EXPIRY (R137). -/
  | silenceExpiry (port : PortIx)
  /-- TRANSMIT_BEGIN (R166, R168). -/
  | transmitBegin
  /-- TRANSMIT_END (R166). -/
  | transmitEnd
  /-- INBOUND_FRAME_BEGINS (R114): CLK falls on the line. -/
  | inboundFrameBegins (port : PortIx)
  /-- CLOCK_GIVEN (R108, R114, R121): the endpoint makes an edge on CLK while DATA reads at this level. -/
  | clockGiven (port : PortIx) (edge : Edge) (dataHigh : Bool)
  /-- CHARACTER_COMPLETE (R157, R160): a character on TRX completes with these bits; its stop bit sampled at
  space when `framingError`. -/
  | characterComplete (value : Byte) (framingError : Bool)
  /-- PART_TIMER_TICK (R187). -/
  | partTimerTick
  /-- RSTN_RELEASED (R177): RSTN is released, or power-up ends. -/
  | rstnReleased
deriving DecidableEq, Repr

end Sys2Proof
end

