-- ==== Sys2Proof/Machine/Codes.lean ====
section
/-! DEFINITION. The codes of the trunk protocol (chapter 10): Types, commands and the enumerated arguments that a
row of the command table fixes, and the form check of a message. -/

namespace Sys2Proof.Machine

/-- The parts of a trunk message that its check protects, less the Length that follows from them (Table 8-2). -/
structure TrunkMessage where
  type : Byte
  sequence : Byte
  payload : List Byte
deriving DecidableEq, Repr

/-- The marker that opens every message (R194). -/
def marker : Byte := 0xC3

/-! Type codes (Table 10-1). -/

def takeType : Byte := 0x01
def doneType : Byte := 0x02
def recallType : Byte := 0x03
def sendType : Byte := 0x04
def commandType : Byte := 0x05
def noticeType : Byte := 0x41
def detailType : Byte := 0x42
def replyType : Byte := 0x43
def resultType : Byte := 0x44
def relayType : Byte := 0x45
def alertType : Byte := 0x46

/-- The code for CURRENT in a DONE (R196). -/
def currentCode : Byte := 0x80

/-- The byte that stands for an absent value of a field of the first kind of R195. -/
def absentCode : Byte := 0xFF

/-- The form check (R164): the payload length is one that Table 10-1 gives for a downstream Type. -/
def formOk (type : Byte) (length : Nat) : Bool :=
  (type == takeType && length == 1) || (type == doneType && length == 1) || (type == recallType && length == 1) ||
    (type == sendType && length == 4) || (type == commandType && decide (1 ≤ length) && decide (length ≤ 40))

/-- The commands (Table 9-4). -/
inductive Command where
  | identify | getStatus | setLink | reset
  | configureLevel | configureBand | setMasks | assertLevel | withdrawLevel | readLevel
  | setArbiter | readArbiter
  | loadSelector | clearShadow | copyActive | commitSelectors | readSelector
  | configureTally | readTally
  | loadPattern | startSignal | stopSignal | readSignal
  | configurePort | portControl | readPort
deriving DecidableEq, Repr

/-- The command codes (Table 10-4). -/
def Command.code : Command → Byte
  | .identify => 0x01 | .getStatus => 0x02 | .setLink => 0x03 | .reset => 0x04
  | .configureLevel => 0x10 | .configureBand => 0x11 | .setMasks => 0x12
  | .assertLevel => 0x13 | .withdrawLevel => 0x14 | .readLevel => 0x15
  | .setArbiter => 0x18 | .readArbiter => 0x19
  | .loadSelector => 0x20 | .clearShadow => 0x21 | .copyActive => 0x22 | .commitSelectors => 0x23
  | .readSelector => 0x24
  | .configureTally => 0x28 | .readTally => 0x29
  | .loadPattern => 0x30 | .startSignal => 0x31 | .stopSignal => 0x32 | .readSignal => 0x33
  | .configurePort => 0x38 | .portControl => 0x39 | .readPort => 0x3A

/-- Every command, in the order of Table 9-4. -/
def Command.all : List Command :=
  [.identify, .getStatus, .setLink, .reset, .configureLevel, .configureBand, .setMasks, .assertLevel,
    .withdrawLevel, .readLevel, .setArbiter, .readArbiter, .loadSelector, .clearShadow, .copyActive,
    .commitSelectors, .readSelector, .configureTally, .readTally, .loadPattern, .startSignal, .stopSignal,
    .readSignal, .configurePort, .portControl, .readPort]

/-- The command that a code names, if it names one (R185, step 1). -/
def commandOf (code : Byte) : Option Command := Command.all.find? fun c => c.code == code

/-! RESET scopes, SET_MASKS operations and PORT_CONTROL actions (Table 10-7). -/

def arbiterScope : Byte := 1
def trafficScope : Byte := 2
def configScope : Byte := 3
def assignOperation : Byte := 1
def maskOperation : Byte := 2
def unmaskOperation : Byte := 3
def enableAction : Byte := 1
def disableAction : Byte := 2
def probeNowAction : Byte := 3
def flushTxAction : Byte := 4

end Sys2Proof.Machine
end

