-- ==== Sys2Proof/WellFormed.lean ====
section
/-! DEFINITION. The commands that the block can be given: those whose message exists (a payload of at most 40
bytes, R194) and is not the message of another row. -/

namespace Sys2Proof

open Sys2Proof.Machine

/-- The COMMAND with this code and these arguments is one that a row of its own names. The three commands that the
table splits are named only with a scope, operation or action of Table 10-7. -/
def namedByARow (code : Byte) (arguments : List Byte) : Bool :=
  match commandOf code with
  | none => false
  | some .reset => [some arbiterScope, some trafficScope, some configScope].contains arguments[0]?
  | some .setMasks => [some assignOperation, some maskOperation, some unmaskOperation].contains arguments[0]?
  | some .portControl =>
    [some enableAction, some disableAction, some probeNowAction, some flushTxAction].contains arguments[1]?
  | some _ => true

/-- The command is one the block can be given. -/
def Instr.wellFormed : Instr → Bool
  | .coldReset | .breakDetected | .breakEnd | .lengthError | .gapAbort | .checkError => true
  | .malformed type _ payload => decide (payload.length ≤ 40) && !formOk type payload.length
  | .take _ => true
  | .done value => value != currentCode
  | .doneCurrent | .recall _ | .send _ _ _ _ _ => true
  | .commandUnknown _ code arguments => decide (arguments.length ≤ 39) && !namedByARow code arguments
  | .identify _ arguments | .getStatus _ arguments | .setLink _ arguments | .configureLevel _ arguments
  | .configureBand _ arguments | .assertLevel _ arguments | .withdrawLevel _ arguments | .readLevel _ arguments
  | .setArbiter _ arguments | .readArbiter _ arguments | .loadSelector _ arguments | .clearShadow _ arguments
  | .copyActive _ arguments | .commitSelectors _ arguments | .readSelector _ arguments
  | .configureTally _ arguments | .readTally _ arguments | .loadPattern _ arguments | .startSignal _ arguments
  | .stopSignal _ arguments | .readSignal _ arguments | .configurePort _ arguments | .readPort _ arguments =>
    decide (arguments.length ≤ 39)
  | .resetArbiter _ rest | .resetTraffic _ rest | .resetConfig _ rest | .setMasksAssign _ rest
  | .setMasksMask _ rest | .setMasksUnmask _ rest => decide (rest.length ≤ 38)
  | .portControlEnable _ _ rest | .portControlDisable _ _ rest | .portControlProbeNow _ _ rest
  | .portControlFlushTx _ _ rest => decide (rest.length ≤ 37)
  | .offer | .takeTimerExpiry | .classify | .phaseEnd _ | .inboundFrame _ | .frameBroken _ | .probeTimerExpiry _
  | .probe _ _ _ | .requestToSend _ _ _ | .startBit _ | .attemptOutcome _ | .noResponse _ | .cutEnd _
  | .silenceExpiry _ | .transmitBegin | .transmitEnd | .inboundFrameBegins _ | .clockGiven _ _ _
  | .characterComplete _ _ | .partTimerTick | .rstnReleased => true

end Sys2Proof
end

