-- ==== Sys2Proof/Decode.lean ====
section
/-! DEFINITION. From a word of the table to a command (the table gives no row bits), and between the rows that are
trunk messages and the messages they stand for (chapter 10). -/

namespace Sys2Proof

open Sys2Proof.Machine

/-- The command that a word spells by the table's bits. No row of spec/opcode_table.json has bits, so no word
spells a command (log 22). -/
def decodeTableWord (_nbits _w : Nat) : Option Instr := none

/-- The row of a COMMAND message that names the command `c` (R199). -/
def commandRow (c : Command) (sequence : Byte) (arguments : List Byte) : Instr :=
  match c with
  | .identify => .identify sequence arguments
  | .getStatus => .getStatus sequence arguments
  | .setLink => .setLink sequence arguments
  | .reset =>
    match arguments with
    | scope :: rest =>
      if scope = arbiterScope then .resetArbiter sequence rest
      else if scope = trafficScope then .resetTraffic sequence rest
      else if scope = configScope then .resetConfig sequence rest
      else .commandUnknown sequence c.code arguments
    | [] => .commandUnknown sequence c.code arguments
  | .configureLevel => .configureLevel sequence arguments
  | .configureBand => .configureBand sequence arguments
  | .setMasks =>
    match arguments with
    | operation :: rest =>
      if operation = assignOperation then .setMasksAssign sequence rest
      else if operation = maskOperation then .setMasksMask sequence rest
      else if operation = unmaskOperation then .setMasksUnmask sequence rest
      else .commandUnknown sequence c.code arguments
    | [] => .commandUnknown sequence c.code arguments
  | .assertLevel => .assertLevel sequence arguments
  | .withdrawLevel => .withdrawLevel sequence arguments
  | .readLevel => .readLevel sequence arguments
  | .setArbiter => .setArbiter sequence arguments
  | .readArbiter => .readArbiter sequence arguments
  | .loadSelector => .loadSelector sequence arguments
  | .clearShadow => .clearShadow sequence arguments
  | .copyActive => .copyActive sequence arguments
  | .commitSelectors => .commitSelectors sequence arguments
  | .readSelector => .readSelector sequence arguments
  | .configureTally => .configureTally sequence arguments
  | .readTally => .readTally sequence arguments
  | .loadPattern => .loadPattern sequence arguments
  | .startSignal => .startSignal sequence arguments
  | .stopSignal => .stopSignal sequence arguments
  | .readSignal => .readSignal sequence arguments
  | .configurePort => .configurePort sequence arguments
  | .portControl =>
    match arguments with
    | port :: action :: rest =>
      if action = enableAction then .portControlEnable sequence port rest
      else if action = disableAction then .portControlDisable sequence port rest
      else if action = probeNowAction then .portControlProbeNow sequence port rest
      else if action = flushTxAction then .portControlFlushTx sequence port rest
      else .commandUnknown sequence c.code arguments
    | _ => .commandUnknown sequence c.code arguments
  | .readPort => .readPort sequence arguments

/-- The row that a COMMAND payload of at most 40 bytes stands for (R199). -/
def decodeCommand (sequence : Byte) : List Byte → Instr
  | [] => .malformed commandType sequence []
  | code :: arguments =>
    match commandOf code with
    | none => .commandUnknown sequence code arguments
    | some c => commandRow c sequence arguments

/-- The row that a valid message is (R164, R194, R196, R199). -/
def decodeMessage (m : TrunkMessage) : Instr :=
  if m.type = takeType then
    match m.payload with
    | [number] => .take number
    | _ => .malformed m.type m.sequence m.payload
  else if m.type = doneType then
    match m.payload with
    | [value] => if value = currentCode then .doneCurrent else .done value
    | _ => .malformed m.type m.sequence m.payload
  else if m.type = recallType then
    match m.payload with
    | [value] => .recall value
    | _ => .malformed m.type m.sequence m.payload
  else if m.type = sendType then
    match m.payload with
    | [port, tag, data, confirm] => .send m.sequence port tag data confirm
    | _ => .malformed m.type m.sequence m.payload
  else if m.type = commandType ∧ m.payload.length ≤ 40 then decodeCommand m.sequence m.payload
  else .malformed m.type m.sequence m.payload

/-- The COMMAND message of a command with these arguments. -/
def commandMessage (c : Command) (sequence : Byte) (arguments : List Byte) : TrunkMessage :=
  ⟨commandType, sequence, c.code :: arguments⟩

/-- The message that a row stands for. `spare` is the Sequence of a TAKE, a DONE or a RECALL, whose Sequence is not
used (Table 8-4). -/
def encodeMessage (spare : Byte) : Instr → Option TrunkMessage
  | .malformed type sequence payload => some ⟨type, sequence, payload⟩
  | .take number => some ⟨takeType, spare, [number]⟩
  | .done value => some ⟨doneType, spare, [value]⟩
  | .doneCurrent => some ⟨doneType, spare, [currentCode]⟩
  | .recall value => some ⟨recallType, spare, [value]⟩
  | .send sequence port tag data confirm => some ⟨sendType, sequence, [port, tag, data, confirm]⟩
  | .commandUnknown sequence code arguments => some ⟨commandType, sequence, code :: arguments⟩
  | .identify sequence arguments => some (commandMessage .identify sequence arguments)
  | .getStatus sequence arguments => some (commandMessage .getStatus sequence arguments)
  | .setLink sequence arguments => some (commandMessage .setLink sequence arguments)
  | .resetArbiter sequence rest => some (commandMessage .reset sequence (arbiterScope :: rest))
  | .resetTraffic sequence rest => some (commandMessage .reset sequence (trafficScope :: rest))
  | .resetConfig sequence rest => some (commandMessage .reset sequence (configScope :: rest))
  | .configureLevel sequence arguments => some (commandMessage .configureLevel sequence arguments)
  | .configureBand sequence arguments => some (commandMessage .configureBand sequence arguments)
  | .setMasksAssign sequence rest => some (commandMessage .setMasks sequence (assignOperation :: rest))
  | .setMasksMask sequence rest => some (commandMessage .setMasks sequence (maskOperation :: rest))
  | .setMasksUnmask sequence rest => some (commandMessage .setMasks sequence (unmaskOperation :: rest))
  | .assertLevel sequence arguments => some (commandMessage .assertLevel sequence arguments)
  | .withdrawLevel sequence arguments => some (commandMessage .withdrawLevel sequence arguments)
  | .readLevel sequence arguments => some (commandMessage .readLevel sequence arguments)
  | .setArbiter sequence arguments => some (commandMessage .setArbiter sequence arguments)
  | .readArbiter sequence arguments => some (commandMessage .readArbiter sequence arguments)
  | .loadSelector sequence arguments => some (commandMessage .loadSelector sequence arguments)
  | .clearShadow sequence arguments => some (commandMessage .clearShadow sequence arguments)
  | .copyActive sequence arguments => some (commandMessage .copyActive sequence arguments)
  | .commitSelectors sequence arguments => some (commandMessage .commitSelectors sequence arguments)
  | .readSelector sequence arguments => some (commandMessage .readSelector sequence arguments)
  | .configureTally sequence arguments => some (commandMessage .configureTally sequence arguments)
  | .readTally sequence arguments => some (commandMessage .readTally sequence arguments)
  | .loadPattern sequence arguments => some (commandMessage .loadPattern sequence arguments)
  | .startSignal sequence arguments => some (commandMessage .startSignal sequence arguments)
  | .stopSignal sequence arguments => some (commandMessage .stopSignal sequence arguments)
  | .readSignal sequence arguments => some (commandMessage .readSignal sequence arguments)
  | .configurePort sequence arguments => some (commandMessage .configurePort sequence arguments)
  | .portControlEnable sequence port rest =>
    some (commandMessage .portControl sequence (port :: enableAction :: rest))
  | .portControlDisable sequence port rest =>
    some (commandMessage .portControl sequence (port :: disableAction :: rest))
  | .portControlProbeNow sequence port rest =>
    some (commandMessage .portControl sequence (port :: probeNowAction :: rest))
  | .portControlFlushTx sequence port rest =>
    some (commandMessage .portControl sequence (port :: flushTxAction :: rest))
  | .readPort sequence arguments => some (commandMessage .readPort sequence arguments)
  | .coldReset | .breakDetected | .breakEnd | .lengthError | .gapAbort | .checkError | .offer | .takeTimerExpiry
  | .classify | .phaseEnd _ | .inboundFrame _ | .frameBroken _ | .probeTimerExpiry _ | .probe _ _ _
  | .requestToSend _ _ _ | .startBit _ | .attemptOutcome _ | .noResponse _ | .cutEnd _ | .silenceExpiry _
  | .transmitBegin | .transmitEnd | .inboundFrameBegins _ | .clockGiven _ _ _ | .characterComplete _ _
  | .partTimerTick | .rstnReleased => none

end Sys2Proof
end

