-- ==== Sys2Proof/Machine/State.lean ====
section
/-! DEFINITION. The state of the LSC-8, block by block (Table 0-2), and the state right after a COLD reset. -/

namespace Sys2Proof.Machine

/-- The spec names no event that stops the part, so a step never ends in a fault (INVENTORY.md, Faults). -/
inductive Fault where
deriving DecidableEq, Repr

/-- Why a command has no meaning. -/
inductive Refusal where
  /-- Raised by `exec` alone, for a row of the table that has no meaning yet; safe. No row is left so. -/
  | notModelled (mnemonic : String)
deriving DecidableEq, Repr

/-! ## Levels and the arbiter (chapters 1 and 2) -/

/-- Who made an assertion, with the identity fields that its kind has (Table 1-2, Table 1-3). -/
inductive Source where
  | selector (entry : EntryIx) (port : PortIx) (tag : Tag) (generation : Word)
  | tally (tally : TallyIx) (port : PortIx)
  | presence (port : PortIx)
  | portFault (port : PortIx)
  | signal (output : OutputIx)
  | host
deriving DecidableEq, Repr

/-- The source kinds (Table 1-2). -/
inductive SourceKind where
  | selector | tally | presence | portFault | signal | host
deriving DecidableEq, Repr

/-- A request record (R2). -/
structure Record where
  source : Source
  firstData : Byte
  latestData : Byte
  firstTime : Word
  latestTime : Word
  /-- 1 to 255, saturating. -/
  count : Byte
  mixed : Bool
deriving DecidableEq, Repr

/-- A level's own state (section 1.1). Its in-service record stands in the in-service stack. -/
structure Level where
  masked : Bool
  autoDone : Bool
  pending : Option Record
deriving DecidableEq, Repr

/-- A band's settings (R9). -/
structure Band where
  rotation : Bool
  pointer : Fin 4
deriving DecidableEq, Repr

/-- A level in service, with its in-service record (R13, R14). -/
structure InService where
  level : LevelIx
  record : Record
deriving DecidableEq, Repr

/-- The arbiter modes (section 1.7). -/
inductive Mode where
  | nested | selective | single
deriving DecidableEq, Repr

/-- The arbiter states (Table 2-1). The offered level and the take timer are there exactly where the table has
them. `timer` is the take limit with which the running take timer was started (log 4). -/
inductive ArbiterState where
  | idle
  | presenting (offered : LevelIx)
  | awaiting (offered : LevelIx) (timer : Nat)
  | quiescent
deriving DecidableEq, Repr

/-- The service arbiter (Tables 1-1 and 2-2). -/
structure Arbiter where
  levels : Vector Level 16
  bands : Vector Band 4
  /-- The in-service stack, newest first (R13). -/
  stack : List InService
  mode : Mode
  state : ArbiterState
  /-- The presentation number (R26). -/
  number : Byte
  /-- 5 to 2000 ms. -/
  takeLimit : Nat
  /-- 1 to 15. -/
  lapseLimit : Nat
  consecutiveLapses : Nat
  totalLapses : Word
deriving DecidableEq, Repr

/-! ## The frame classifier (chapter 3) -/

/-- The two banks. -/
inductive Bank where
  | a | b
deriving DecidableEq, Repr

/-- An action with the arguments it uses (Table 3-3). -/
inductive Action where
  | discard
  | assert (level : LevelIx)
  | withdraw (level : LevelIx)
  | forward
  | tally (tally : TallyIx) (step : Int)
  | signal (output : OutputIx) (pattern : PatternIx)
  | answer (tag : Tag) (data : Byte)
deriving DecidableEq, Repr

/-- A selector entry (R51). -/
structure Selector where
  valid : Bool
  /-- The continue flag. -/
  goesOn : Bool
  /-- The port set, bit n for port n. -/
  ports : Byte
  /-- The tag match; `none` is ANY. -/
  tag : Option Tag
  low : Byte
  high : Byte
  action : Action
deriving DecidableEq, Repr

/-- A place of a bank: its entry and the entry's hit count (R56). -/
structure Slot where
  entry : Selector
  hits : Word
deriving DecidableEq, Repr

/-- The frame classifier (Table 3-1). -/
structure Classifier where
  bankA : Vector Slot 48
  bankB : Vector Slot 48
  active : Bank
  generation : Word
  /-- The grant pointer. -/
  grant : PortIx
  deferred : Vector Bool 8
deriving DecidableEq, Repr

/-! ## Tallies (chapter 4) -/

/-- A tally (Table 4-1). -/
structure Tally where
  /-- -32768 to 32767, saturating. -/
  value : Int
  upper : Option Int
  lower : Option Int
  /-- H, 1 to 255. -/
  hysteresis : Nat
  target : Option LevelIx
  upperArm : Bool
  lowerArm : Bool
  steps : Word
  crossings : Byte
deriving DecidableEq, Repr

/-! ## Signals (chapter 5) -/

/-- What the pin carries during a mark (R103). -/
inductive Tone where
  | steady | one | two | three
deriving DecidableEq, Repr

/-- The fields of a loaded pattern (Table 5-1). -/
structure Pattern where
  /-- In units of 100 µs. -/
  mark : Word
  space : Word
  /-- The pulse count, 0 to 1000. -/
  count : Nat
  tone : Tone
  longMark : Bool
  completion : Option LevelIx
deriving DecidableEq, Repr

/-- A snapshot (R94). -/
structure Snapshot where
  index : PatternIx
  pattern : Pattern
deriving DecidableEq, Repr

/-- The phases of a running burst. -/
inductive Phase where
  | mark | space
deriving DecidableEq, Repr

/-- A burst in progress (Table 5-2). -/
structure Burst where
  /-- The running copy. -/
  copy : Snapshot
  phase : Phase
  /-- The remaining pulses. -/
  remaining : Nat
  /-- The length, in units of 100 µs, with which the phase in progress was started (log 4). -/
  timeLeft : Nat
deriving DecidableEq, Repr

/-- A signal output (Table 5-2). It is IDLE when no burst runs. -/
structure Output where
  running : Option Burst
  waiting : Option Snapshot
  superseded : Word
  refused : Word
deriving DecidableEq, Repr

/-! ## Branch lines and ports (chapters 6 and 7) -/

/-- The hold reasons, in the order in which they are reported (R112). -/
inductive Reason where
  | disabled | faulted | backpressure | preempt
deriving DecidableEq, Repr

/-- The standing hold reasons (R112). -/
structure Reasons where
  disabled : Bool
  faulted : Bool
  backpressure : Bool
  preempt : Bool
deriving DecidableEq, Repr

/-- A frame handed to the line to send (R120): a probe, or the head of the transmit queue. -/
structure Ready where
  probe : Bool
  tag : Tag
  data : Byte
deriving DecidableEq, Repr

/-- What the line is doing. The line state of Table 6-1 follows from it and from the standing reasons. -/
inductive Activity where
  /-- No frame in progress: QUIET, or HELD while a reason stands. -/
  | none
  /-- An inbound frame (R114). `bits` are the levels sampled at the clocks given so far, clock 1 first; CLK is in the
  low phase of the next clock when `low`; the frame is dropped (R119) when `dropped`. -/
  | inbound (bits : List Bool) (low dropped : Bool)
  /-- The hold phase of a request-to-send (R120), begun from HELD or from QUIET. -/
  | holdPhase (fromHeld : Bool)
  /-- CLK released, DATA low: the wait for the endpoint's first clock (R121). -/
  | awaitClock
  /-- The endpoint clocks the frame (R121): the clocks given, the phase of CLK, and whether DATA read low at the
  rising edge of clock 15. -/
  | outbound (given : Nat) (low answered : Bool)
  /-- After a cut, until CLK has been held for 100 µs (R123, step 3): HELD where a reason stands, and the close of the cut
  in OUTBOUND where none does (R129, log 32). -/
  | closing
deriving DecidableEq, Repr

/-- A branch line. -/
structure Line where
  activity : Activity
  reasons : Reasons
  ready : Option Ready
deriving DecidableEq, Repr

/-- The presence states (R132). -/
inductive Presence where
  | disabled | absent | present | faulted
deriving DecidableEq, Repr

/-- A frame in an intake; its port is the port whose intake holds it (R57). -/
structure Frame where
  tag : Tag
  data : Byte
  /-- The arrival time. -/
  time : Word
deriving DecidableEq, Repr

/-- A transmit-queue entry (R143). The confirm flag is on exactly when there is a request sequence. -/
structure TxEntry where
  tag : Tag
  data : Byte
  request : Option Byte
deriving DecidableEq, Repr

/-- The default dispositions. -/
inductive Disposition where
  | forward | discard
deriving DecidableEq, Repr

/-- The overflow policies. -/
inductive Overflow where
  | drop | hold
deriving DecidableEq, Repr

/-- The precedences. -/
inductive Precedence where
  | yield | preempt
deriving DecidableEq, Repr

/-- A port's configuration (Table 7-7). -/
structure PortConfig where
  disposition : Disposition
  overflow : Overflow
  precedence : Precedence
  /-- In milliseconds; 0 is off. -/
  silenceLimit : Nat
  presenceLevel : Option LevelIx
  faultLevel : Option LevelIx
deriving DecidableEq, Repr

/-- The eight statistics counters (Table 7-6). -/
structure Statistics where
  framesReceived : Word
  lineErrors : Word
  preemptedInbound : Word
  framesLost : Word
  relayDrops : Word
  framesSent : Word
  sendFailures : Word
  answersLost : Word
deriving DecidableEq, Repr

/-- A branch port with its line (Table 7-1). A running timer holds the length with which it was started (log 4). -/
structure Port where
  presence : Presence
  endpointType : Option Byte
  probeDue : Bool
  probeTimer : Option Nat
  silenceTimer : Option Nat
  /-- Head first. -/
  intake : List Frame
  /-- Head first. -/
  queue : List TxEntry
  /-- Attempts made on the head of the transmit queue. -/
  attempts : Nat
  lineErrorRun : Nat
  sendFailureRun : Nat
  config : PortConfig
  stats : Statistics
  line : Line
deriving DecidableEq, Repr

/-! ## The trunk unit, the request unit (chapters 8 and 9) -/

/-- The link rates (Table 8-1). -/
inductive LinkRate where
  | r9600 | r19200 | r38400 | r57600 | r115200 | r230400 | r460800 | r921600
deriving DecidableEq, Repr

/-- The status codes (Table 9-3). -/
inductive Status where
  | ok | unknown | badLength | range | notReady | queueFull | noReserve | unloaded
deriving DecidableEq, Repr

/-- A REPLY (Table 9-2). -/
structure Reply where
  /-- The echoed request sequence. -/
  request : Byte
  /-- The command code as received; 0 for a SEND. -/
  command : Byte
  toSend : Bool
  status : Status
  /-- The repeat flag. -/
  repeated : Bool
  /-- The result data. -/
  data : List Byte
deriving DecidableEq, Repr

/-- A DETAIL (Table 2-5). -/
inductive Detail where
  | taken (number : Byte) (level : LevelIx) (record : Record)
  | void (number : Byte) (level : LevelIx)
  | stale (number : Byte)
  | recalled (level : LevelIx) (record : Record)
deriving DecidableEq, Repr

/-- The outcomes of a confirmed entry (Table 7-4). -/
inductive SendOutcome where
  | delivered | failedNak | failedSilent | portAbsent | portFaulted | portDisabled | flushed
deriving DecidableEq, Repr

/-- Why a DONE was refused (R46). -/
inductive DoneRefusal where
  | notInService | noneInService
deriving DecidableEq, Repr

/-- The causes of ALERT STARTED (R173). -/
inductive StartCause where
  | cold | linkBreak
deriving DecidableEq, Repr

/-- The content of an ALERT besides the lost-alert count (Table 8-7). -/
inductive AlertContent where
  | quiescent (consecutive : Nat) (total : Word) (level : LevelIx)
  | doneRefused (reason : DoneRefusal) (value : Byte)
  | recallRefused (value : Byte)
  | malformed (type sequence length : Byte)
  | started (cause : StartCause) (rate : LinkRate)
deriving DecidableEq, Repr

/-- The messages of the control lane (R169). -/
inductive ControlMessage where
  | notice (number : Byte) (level : LevelIx) (kind : SourceKind) (count : Byte)
  | detail (detail : Detail)
  | reply (reply : Reply)
  | result (port : PortIx) (request : Byte) (tag : Tag) (data : Byte) (outcome : SendOutcome) (attempts : Nat)
  | alert (lost : Byte) (content : AlertContent)
deriving DecidableEq, Repr

/-- A queued control message, with the pending rate that a SET_LINK attached to it (R158). -/
structure ControlEntry where
  message : ControlMessage
  pendingRate : Option LinkRate
deriving DecidableEq, Repr

/-- A RELAY (R67). -/
structure Relay where
  port : PortIx
  tag : Tag
  data : Byte
  time : Word
  /-- The forwarding entry index; absent when the default disposition forwarded the frame. -/
  entry : Option EntryIx
deriving DecidableEq, Repr

/-- An upstream message. -/
inductive Upstream where
  | control (message : ControlMessage)
  | relay (relay : Relay)
deriving DecidableEq, Repr

/-- A message in transmission (R166): what it is, the number it took, the rate in force when it began, the rate its
end puts in force, and its characters in the order they are sent (R194). -/
structure Transmission where
  message : Upstream
  sequence : Byte
  rate : LinkRate
  pendingRate : Option LinkRate
  characters : List Byte
deriving DecidableEq, Repr

/-- The receiver states (Table 8-3). BODY holds the bytes collected, the Length first, and the damaged mark. -/
inductive Receiver where
  | hunt
  | body (collected : List Byte) (damaged : Bool)
  | inBreak
deriving DecidableEq, Repr

/-- The trunk unit. -/
structure Trunk where
  receiver : Receiver
  /-- The last character had a framing error, and TRX has not been at mark again since: the receiver looks for no start
  bit (R157, log 30). -/
  awaitsMark : Bool
  sending : Option Transmission
  control : List ControlEntry
  relays : List Relay
  reservations : Nat
  /-- The consecutive-control count (R168). -/
  controlRun : Nat
  /-- The upstream sequence number (R167). -/
  sequence : Byte
  lostAlerts : Byte
  checkErrors : Word
  gapAborts : Word
  lengthErrors : Word
  overruns : Word
  rate : LinkRate
deriving DecidableEq, Repr

/-- The entry of the sequence memory (R179). -/
structure Remembered where
  sequence : Byte
  reply : Reply
deriving DecidableEq, Repr

/-- The state of the LSC-8. -/
structure State where
  arbiter : Arbiter
  classifier : Classifier
  tallies : Vector Tally 8
  /-- The pattern table; an unloaded pattern holds nothing (R91, log 15). -/
  patterns : Vector (Option Pattern) 16
  outputs : Vector Output 4
  ports : Vector Port 8
  trunk : Trunk
  /-- The sequence memory (R179). -/
  memory : Option Remembered
  /-- The part timer (R187). -/
  timer : Word
  /-- RSTN is low, or power-up has not ended (R177). -/
  rstnLow : Bool
  /-- The model's own: how many open values have been drawn (log 9). -/
  freeReads : Nat
  /-- The model's own: the commands that wait, first in, first out (log 1). -/
  pending : List Instr
deriving DecidableEq, Repr

/-! ## Reset values -/

/-- A level after a COLD reset (Table 1-1). -/
def Level.cold : Level := ⟨true, false, none⟩

/-- A band after a COLD reset (R9). -/
def Band.cold : Band := ⟨false, 3⟩

/-- The arbiter after a COLD reset (Tables 1-7 and 2-7). -/
def Arbiter.cold : Arbiter where
  levels := Vector.replicate 16 Level.cold
  bands := Vector.replicate 4 Band.cold
  stack := []
  mode := .nested
  state := .idle
  number := 0
  takeLimit := 50
  lapseLimit := 4
  consecutiveLapses := 0
  totalLapses := 0

/-- An entry in cleared form (R52). -/
def Selector.cleared : Selector := ⟨false, false, 0, none, 0, 255, .discard⟩

/-- A place of a bank after a COLD reset (Table 3-7). -/
def Slot.cold : Slot := ⟨Selector.cleared, 0⟩

/-- The classifier after a COLD reset (Table 3-7). -/
def Classifier.cold : Classifier where
  bankA := Vector.replicate 48 Slot.cold
  bankB := Vector.replicate 48 Slot.cold
  active := .a
  generation := 0
  grant := 0
  deferred := Vector.replicate 8 false

/-- A tally after a COLD reset (Table 4-1). -/
def Tally.cold : Tally := ⟨0, none, none, 1, none, false, false, 0, 0⟩

/-- An output after a COLD reset (Table 5-4). -/
def Output.cold : Output := ⟨none, none, 0, 0⟩

/-- No reason stands. -/
def Reasons.noReason : Reasons := ⟨false, false, false, false⟩

/-- A line after a COLD reset (R130). -/
def Line.cold : Line := ⟨.none, Reasons.noReason, Option.none⟩

/-- The default configuration of a port (Table 7-7). -/
def PortConfig.default : PortConfig := ⟨.forward, .drop, .yield, 2000, none, none⟩

/-- Statistics all 0. -/
def Statistics.zero : Statistics := ⟨0, 0, 0, 0, 0, 0, 0, 0⟩

/-- A port after a COLD reset (Table 7-1). -/
def Port.cold : Port where
  presence := .absent
  endpointType := none
  probeDue := true
  probeTimer := some Config.probeInterval
  silenceTimer := none
  intake := []
  queue := []
  attempts := 0
  lineErrorRun := 0
  sendFailureRun := 0
  config := PortConfig.default
  stats := Statistics.zero
  line := Line.cold

/-- The trunk unit after a COLD reset, with no message in transmission and nothing queued (Table 8-10). -/
def Trunk.cold : Trunk where
  receiver := .hunt
  awaitsMark := false
  sending := none
  control := []
  relays := []
  reservations := 0
  controlRun := 0
  sequence := 0
  lostAlerts := 0
  checkErrors := 0
  gapAborts := 0
  lengthErrors := 0
  overruns := 0
  rate := .r115200

/-- ALERT STARTED as it is queued at the end of a COLD reset (R173). -/
def startedCold : ControlEntry := ⟨.alert 0 (.started .cold .r115200), none⟩

/-- The part right after a COLD reset has ended at power-up: every block reset, no message in transmission, and ALERT
STARTED the one queued message (R173, R177, Table 11-1; log 7, log 24). -/
def State.reset : State where
  arbiter := Arbiter.cold
  classifier := Classifier.cold
  tallies := Vector.replicate 8 Tally.cold
  patterns := Vector.replicate 16 none
  outputs := Vector.replicate 4 Output.cold
  ports := Vector.replicate 8 Port.cold
  trunk := { Trunk.cold with control := [startedCold] }
  memory := none
  timer := 0
  rstnLow := false
  freeReads := 0
  pending := []

end Sys2Proof.Machine
end

