-- ==== Sys2Proof/Machine/Formats.lean ====
section
/-! DEFINITION. The byte layouts of what the part sends (chapter 10), the check of a message (R159), and the frame of
the branch line (R109). -/

namespace Sys2Proof.Machine

/-- A 16-bit field, high byte first (R194). -/
def word (w : Word) : List Byte := [hiByte w, loByte w]

/-- A 16-bit field that holds a number. -/
def number16 (n : Nat) : List Byte := word (BitVec.ofNat 16 n)

/-- A signed 16-bit field in two's complement (R194). -/
def signed16 (i : Int) : List Byte := word (BitVec.ofInt 16 i)

/-- A one-byte field that holds a number. -/
def number8 (n : Nat) : Byte := BitVec.ofNat 8 n

/-- Bit `n` of a flags byte. -/
def flag (n : Nat) (b : Bool) : Byte := if b then BitVec.twoPow 8 n else 0

/-- An index, with the absent code of R195 when it is absent. -/
def indexOrAbsent {n : Nat} : Option (Fin n) → Byte
  | some i => number8 i
  | none => absentCode

/-- A level set: bit n stands for level n (R194). -/
def levelSet (f : LevelIx → Bool) : Word := BitVec.ofFnLE f

/-! ## Enumeration codes (Table 10-3) -/

def SourceKind.code : SourceKind → Byte
  | .selector => 1 | .tally => 2 | .presence => 3 | .portFault => 4 | .signal => 5 | .host => 6

def Mode.code : Mode → Byte
  | .nested => 0 | .selective => 1 | .single => 2

def ArbiterState.code : ArbiterState → Byte
  | .idle => 0 | .presenting _ => 1 | .awaiting _ _ => 2 | .quiescent => 3

def Status.code : Status → Byte
  | .ok => 0 | .unknown => 1 | .badLength => 2 | .range => 3 | .notReady => 4 | .queueFull => 5
  | .noReserve => 6 | .unloaded => 7

def SendOutcome.code : SendOutcome → Byte
  | .delivered => 1 | .failedNak => 2 | .failedSilent => 3 | .portAbsent => 4 | .portFaulted => 5
  | .portDisabled => 6 | .flushed => 7

def DoneRefusal.code : DoneRefusal → Byte
  | .notInService => 1 | .noneInService => 2

def StartCause.code : StartCause → Byte
  | .cold => 1 | .linkBreak => 2

def Presence.code : Presence → Byte
  | .disabled => 0 | .absent => 1 | .present => 2 | .faulted => 3

def Reason.code : Reason → BitVec 2
  | .disabled => 0 | .faulted => 1 | .backpressure => 2 | .preempt => 3

def Bank.code : Bank → Byte
  | .a => 0 | .b => 1

def LinkRate.code : LinkRate → Byte
  | .r9600 => 0 | .r19200 => 1 | .r38400 => 2 | .r57600 => 3 | .r115200 => 4 | .r230400 => 5 | .r460800 => 6
  | .r921600 => 7

/-! ## Request records (R197) -/

/-- The kind of a source. -/
def Source.kind : Source → SourceKind
  | .selector .. => .selector | .tally .. => .tally | .presence _ => .presence | .portFault _ => .portFault
  | .signal _ => .signal | .host => .host

/-- The source index of a source (Table 1-3); a HOST has none. -/
def Source.index : Source → Option Nat
  | .selector entry .. => some entry
  | .tally t _ => some t
  | .presence port => some port
  | .portFault port => some port
  | .signal output => some output
  | .host => none

/-- The port of a source (Table 1-3). -/
def Source.port : Source → Option PortIx
  | .selector _ port _ _ => some port
  | .tally _ port => some port
  | .presence port => some port
  | .portFault port => some port
  | .signal _ => none
  | .host => none

/-- The tag of a source (Table 1-3). -/
def Source.tag : Source → Option Tag
  | .selector _ _ tag _ => some tag
  | _ => none

/-- The generation of a source (Table 1-3). -/
def Source.generation : Source → Option Word
  | .selector _ _ _ generation => some generation
  | _ => none

/-- The 14 bytes of a record (Table 10-2); an absent field has its presence bit clear and is sent as 0. -/
def Record.bytes (r : Record) : List Byte :=
  [r.source.kind.code,
    flag 0 r.source.index.isSome ||| flag 1 r.source.port.isSome ||| flag 2 r.source.tag.isSome |||
      flag 3 r.source.generation.isSome ||| flag 7 r.mixed,
    number8 (r.source.index.getD 0),
    number8 ((r.source.port.map Fin.val).getD 0),
    (r.source.tag.getD 0).setWidth 8,
    r.firstData, r.latestData] ++
  word r.firstTime ++ word r.latestTime ++ [r.count] ++ word (r.source.generation.getD 0)

/-- An optional record: 14 zero bytes when absent (Table 10-6). -/
def recordBytes : Option Record → List Byte
  | some r => r.bytes
  | none => List.replicate 14 0

/-! ## Selector entries (R200) -/

/-- The action code, bits 0-2 of byte 0 (Table 10-8). -/
def Action.code : Action → Byte
  | .discard => 0 | .assert _ => 1 | .withdraw _ => 2 | .forward => 3 | .tally .. => 4 | .signal .. => 5
  | .answer .. => 6

/-- The two argument bytes of an action; an argument that the action does not use is 0 (R51). -/
def Action.arguments : Action → Byte × Byte
  | .discard => (0, 0)
  | .assert level => (number8 level, 0)
  | .withdraw level => (number8 level, 0)
  | .forward => (0, 0)
  | .tally t step => (number8 t, BitVec.ofInt 8 step)
  | .signal output pattern => (number8 output, number8 pattern)
  | .answer tag data => (tag.setWidth 8, data)

/-- The 7 bytes of an entry as stored (Table 10-8). -/
def Selector.bytes (e : Selector) : List Byte :=
  [flag 7 e.valid ||| flag 6 e.goesOn ||| e.action.code,
    e.ports,
    match e.tag with
    | some tag => tag.setWidth 8
    | none => absentCode,
    e.low, e.high, e.action.arguments.1, e.action.arguments.2]

/-! ## Upstream messages (R196, R198) -/

/-- The Type of a control message (Table 10-1). -/
def ControlMessage.type : ControlMessage → Byte
  | .notice .. => noticeType
  | .detail _ => detailType
  | .reply _ => replyType
  | .result .. => resultType
  | .alert .. => alertType

/-- The 18 bytes of a DETAIL: outcome, presence byte, number, level, record (R196). -/
def Detail.bytes : Detail → List Byte
  | .taken number level record => [1, 7, number, number8 level] ++ record.bytes
  | .void number level => [2, 3, number, number8 level] ++ recordBytes none
  | .stale number => [3, 1, number, absentCode] ++ recordBytes none
  | .recalled level record => [4, 6, 0, number8 level] ++ record.bytes

/-- The payload of an ALERT (R198). -/
def AlertContent.bytes (lost : Byte) : AlertContent → List Byte
  | .quiescent consecutive total level => [1, lost, number8 consecutive] ++ word total ++ [number8 level]
  | .doneRefused reason value => [2, lost, reason.code, value]
  | .recallRefused value => [3, lost, value]
  | .malformed type sequence length => [4, lost, type, sequence, length]
  | .started cause rate => [5, lost, cause.code, rate.code]

/-- The payload of a REPLY (R198). -/
def Reply.bytes (r : Reply) : List Byte :=
  [r.request, r.command, r.status.code, flag 0 r.repeated ||| flag 1 r.toSend] ++ r.data

/-- The payload of a control message (R196, R198). -/
def ControlMessage.payload : ControlMessage → List Byte
  | .notice number level kind count => [number, number8 level, kind.code, count]
  | .detail d => d.bytes
  | .reply r => r.bytes
  | .result port request tag data outcome attempts =>
    [number8 port, request, tag.setWidth 8, data, outcome.code, number8 attempts]
  | .alert lost content => content.bytes lost

/-- The payload of a RELAY (R198). -/
def Relay.payload (r : Relay) : List Byte :=
  [number8 r.port, r.tag.setWidth 8, r.data] ++ word r.time ++ [indexOrAbsent r.entry]

/-- The Type of an upstream message. -/
def Upstream.type : Upstream → Byte
  | .control m => m.type
  | .relay _ => relayType

/-- The payload of an upstream message. -/
def Upstream.payload : Upstream → List Byte
  | .control m => m.payload
  | .relay r => r.payload

/-! ## The message frame (R159, R194) -/

/-- One bit into the check register: shift out the top bit and, where it differs from the bit fed in, add the
generator x^16 + x^12 + x^5 + 1. -/
def crcBit (register : Word) (bit : Bool) : Word :=
  if register.msb = bit then register <<< 1 else (register <<< 1) ^^^ 0x1021

/-- One byte into the check register, most significant bit first. -/
def crcByte (register : Word) (b : Byte) : Word :=
  [7, 6, 5, 4, 3, 2, 1, 0].foldl (fun r i => crcBit r (b.getLsbD i)) register

/-- The check of these bytes: the register starts at all ones, nothing is reflected, and no final value is applied
(R159). -/
def crc (bytes : List Byte) : Word := bytes.foldl crcByte 0xFFFF

/-- The Length of a message: its Type, Sequence and payload bytes (Table 8-2). -/
def TrunkMessage.length (m : TrunkMessage) : Byte := number8 (m.payload.length + 2)

/-- The bytes that the check protects: Length, Type, Sequence, payload. -/
def TrunkMessage.body (m : TrunkMessage) : List Byte := m.length :: m.type :: m.sequence :: m.payload

/-- The characters of a message in the order they are sent (R194). -/
def TrunkMessage.characters (m : TrunkMessage) : List Byte := marker :: (m.body ++ word (crc m.body))

/-! ## The branch frame (R109) -/

/-- The parity bit: with it, the number of 1s among tag, data and parity is odd. -/
def parityBit (tag : Tag) (data : Byte) : Bool :=
  !((List.range 3).foldl (fun p i => p ^^ tag.getLsbD i) ((List.range 8).foldl (fun p i => p ^^ data.getLsbD i) false))

/-- The bits of clocks 1 to 14: start, tag, data, parity, stop, each field least significant bit first
(Table 10-10). -/
def frameBits (tag : Tag) (data : Byte) : List Bool :=
  false :: ((List.range 3).map tag.getLsbD ++ (List.range 8).map data.getLsbD ++ [parityBit tag data, true])

/-- The tag of the bits sampled at clocks 1 to 14: clocks 2 to 4. -/
def sampledTag (bits : List Bool) : Tag := BitVec.ofFnLE fun i : Fin 3 => (bits[1 + i.val]?).getD false

/-- The data of the bits sampled at clocks 1 to 14: clocks 5 to 12. -/
def sampledData (bits : List Bool) : Byte := BitVec.ofFnLE fun i : Fin 8 => (bits[4 + i.val]?).getD false

/-- The bits sampled at clocks 1 to 14 are a good frame: start 0, parity odd, stop 1 (R109). -/
def goodFrame (bits : List Bool) : Bool :=
  bits[0]? == some false && bits[12]? == some (parityBit (sampledTag bits) (sampledData bits)) &&
    bits[13]? == some true

end Sys2Proof.Machine
end

