-- ==== Sys2Proof/Machine/Conditions.lean ====
section
/-! DEFINITION. The conditions and views of the part: rank, eligibility and the current level (chapter 1), the line
state and the pins (chapters 5 and 6), grantability (chapter 3), and room on the lanes (chapter 8). -/

namespace Sys2Proof.Machine

/-! ## Rank and eligibility (R9, R10, R15 to R19) -/

/-- The band of a level (R9). -/
def bandOf (l : LevelIx) : BandIx := ⟨l.val / 4, by omega⟩

/-- The member position of a level in its band (R9). -/
def memberOf (l : LevelIx) : Fin 4 := ⟨l.val % 4, by omega⟩

/-- The level at a member position of a band (R9). -/
def levelOf (b : BandIx) (m : Fin 4) : LevelIx := ⟨4 * b.val + m.val, by omega⟩

/-- The rank index of a level (R10): the bands in order, and in a band the members from the one after the
lowest-member pointer on, wrapping from 3 to 0 (R9). -/
def Arbiter.rank (a : Arbiter) (l : LevelIx) : Nat :=
  4 * (bandOf l).val + ((memberOf l).val + 3 - a.bands[bandOf l].pointer.val) % 4

/-- `x` outranks `y` (R10). -/
def Arbiter.outranks (a : Arbiter) (x y : LevelIx) : Bool := decide (a.rank x < a.rank y)

/-- All levels, highest rank first (R9, R10). -/
def Arbiter.rankOrder (a : Arbiter) : List LevelIx :=
  (List.finRange 4).flatMap fun b =>
    (List.finRange 4).map fun k => levelOf b (a.bands[b].pointer + 1 + k)

/-- The level is in the in-service stack (R1). -/
def Arbiter.inStack (a : Arbiter) (l : LevelIx) : Bool := a.stack.any fun e => e.level == l

/-- The in-service record of a level, present exactly when it is in the stack (R13, R14). -/
def Arbiter.inService (a : Arbiter) (l : LevelIx) : Option Record :=
  (a.stack.find? fun e => e.level == l).map InService.record

/-- The place of a level in the stack, from 0 at the top (R23). -/
def Arbiter.stackPlace (a : Arbiter) (l : LevelIx) : Option Nat := a.stack.findIdx? fun e => e.level == l

/-- The further condition of the mode for eligibility (Table 1-5). -/
def Arbiter.modeAllows (a : Arbiter) (l : LevelIx) : Bool :=
  match a.mode with
  | .nested => a.stack.all fun e => a.outranks l e.level
  | .selective => a.stack.all fun e => a.levels[e.level].masked || a.outranks l e.level
  | .single => a.stack.isEmpty

/-- The level is eligible (R15). -/
def Arbiter.eligible (a : Arbiter) (l : LevelIx) : Bool :=
  a.levels[l].pending.isSome && !a.levels[l].masked && a.modeAllows l

/-- The highest-ranked eligible level (R16). -/
def Arbiter.highest (a : Arbiter) : Option LevelIx := a.rankOrder.find? a.eligible

/-- The current level (R19). -/
def Arbiter.current (a : Arbiter) : Option LevelIx :=
  match a.mode with
  | .selective => (a.stack.find? fun e => !a.levels[e.level].masked).map InService.level
  | _ => a.stack.head?.map InService.level

/-- The offered level (Table 2-1). -/
def ArbiterState.offered : ArbiterState → Option LevelIx
  | .presenting l => some l
  | .awaiting l _ => some l
  | _ => none

/-! ## The lanes (R169, R171) -/

/-- Queued control messages and reservations together (R169). -/
def Trunk.load (t : Trunk) : Nat := t.control.length + t.reservations

/-- A free unreserved entry exists (R169). -/
def Trunk.room (t : Trunk) : Bool := decide (t.load < Config.controlEntries)

/-- The relay lane is full (R59). -/
def Trunk.relayFull (t : Trunk) : Bool := decide (Config.relayEntries ≤ t.relays.length)

/-! ## Lines (R108, R111, R112) -/

/-- The line states (Table 6-1). -/
inductive LineState where
  | quiet | inbound | outbound | held
deriving DecidableEq, Repr

/-- Some reason stands. -/
def Reasons.any (r : Reasons) : Bool := r.disabled || r.faulted || r.backpressure || r.preempt

/-- The reported reason: the first standing one in the order DISABLED, FAULTED, BACKPRESSURE, PREEMPT (R112). -/
def Reasons.first (r : Reasons) : Option Reason :=
  if r.disabled then some .disabled
  else if r.faulted then some .faulted
  else if r.backpressure then some .backpressure
  else if r.preempt then some .preempt
  else none

/-- The line state (Table 6-1, R113, R120). -/
def Line.state (l : Line) : LineState :=
  match l.activity with
  | .none => if l.reasons.any then .held else .quiet
  | .inbound .. => .inbound
  | .holdPhase true => .held
  | .holdPhase false => .outbound
  | .awaitClock => .outbound
  | .outbound .. => .outbound
  | .closing => if l.reasons.any then .held else .outbound

/-- An attempt is in progress: from the start of its request-to-send to its outcome (R123, R136). -/
def Line.attempting (l : Line) : Bool :=
  match l.activity with
  | .holdPhase _ => true
  | .awaitClock => true
  | .outbound .. => true
  | _ => false

/-- An inbound frame that is not dropped is before its commit point, the rising edge of clock 12 (R116, R126). -/
def Line.beforeCommit (l : Line) : Bool :=
  match l.activity with
  | .inbound bits _ dropped => decide (bits.length < 12) && !dropped
  | _ => false

/-- The part pulls CLK low (R108): to hold the line, in a hold phase, or to close a cut. -/
def Line.pullsClk (l : Line) : Bool :=
  match l.activity with
  | .none => l.reasons.any
  | .holdPhase _ => true
  | .closing => true
  | _ => false

/-- The number of the clock whose bit an outbound frame has on DATA: the clock in its low phase, or the last one
given (R121). -/
def clockOnData (given : Nat) (low : Bool) : Nat := if low then given + 1 else given

/-- The part pulls DATA low (R110, R121): to ACK a good inbound frame from the low phase of clock 15 to the end of the
slot, and for every bit 0 of a frame it sends, from the start bit on. -/
def Line.pullsData (l : Line) : Bool :=
  match l.activity with
  | .inbound bits low dropped =>
    !dropped && ((decide (bits.length = 14) && low) || decide (bits.length = 15)) && goodFrame (bits.take 14)
  | .awaitClock => true
  | .outbound given low _ =>
    match l.ready with
    | some r => (frameBits r.tag r.data)[clockOnData given low - 1]? == some false
    | none => false
  | _ => false

/-! ## Signal pins (R93, R103) -/

/-- What a SIG pin carries. -/
inductive Pin where
  | low | high
  /-- A square wave of this frequency in hertz, high at the beginning of the mark. -/
  | wave (hertz : Nat)
deriving DecidableEq, Repr

/-- What the pin carries in a mark (R103). -/
def Tone.pin : Tone → Pin
  | .steady => .high
  | .one => .wave 2000
  | .two => .wave 2500
  | .three => .wave 4000

/-- What the SIG pin of an output carries (R93). -/
def Output.pin (o : Output) : Pin :=
  match o.running with
  | some burst => if burst.phase = .mark then burst.copy.pattern.tone.pin else .low
  | none => .low

/-! ## The classifier (R53, R54, R58) -/

/-- The other bank. -/
def Bank.other : Bank → Bank
  | .a => .b
  | .b => .a

/-- The entries and hit counts of a bank. -/
def Classifier.bank (c : Classifier) : Bank → Vector Slot 48
  | .a => c.bankA
  | .b => c.bankB

/-- A frame from port `p` matches an entry (R53). -/
def Selector.accepts (e : Selector) (p : PortIx) (f : Frame) : Bool :=
  e.valid && e.ports.getLsbD p.val && (e.tag.isNone || e.tag == some f.tag) &&
    decide (e.low ≤ f.data) && decide (f.data ≤ e.high)

/-- The walk of R61 over these entries: the matching ones in order, up to the first whose continue flag is OFF. -/
def collect (bank : Vector Slot 48) (p : PortIx) (f : Frame) : List EntryIx → List EntryIx
  | [] => []
  | i :: rest =>
    if bank[i].entry.accepts p f then
      if bank[i].entry.goesOn then i :: collect bank p f rest else [i]
    else collect bank p f rest

/-- The collected list of a frame (R61). -/
def Classifier.collected (c : Classifier) (p : PortIx) (f : Frame) : List EntryIx :=
  collect (c.bank c.active) p f (List.finRange 48)

/-- The port is grantable (R58, R59). -/
def State.grantable (s : State) (p : PortIx) : Bool :=
  !s.ports[p].intake.isEmpty && !(s.classifier.deferred[p] && s.trunk.relayFull)

/-- The port that the next grant goes to: the first grantable one from the grant pointer on, wrapping from 7 to 0
(R58). -/
def State.granted (s : State) : Option PortIx :=
  ((List.finRange 8).map fun k => s.classifier.grant + k).find? s.grantable

end Sys2Proof.Machine
end

