-- ==== Sys2Proof/Machine/Ops.lean ====
section
/-! DEFINITION. The shared operations of the arbiter, the lanes and the tables: replacing one part of the state,
queueing a message, raising an alert, asserting, withdrawing and completing a level, making an offer. -/

namespace Sys2Proof.Machine

/-! ## Replacing one part of the state -/

def State.withArbiter (s : State) (a : Arbiter) : State := { s with arbiter := a }
def State.withClassifier (s : State) (c : Classifier) : State := { s with classifier := c }
def State.withTallies (s : State) (v : Vector Tally 8) : State := { s with tallies := v }
def State.withPatterns (s : State) (v : Vector (Option Pattern) 16) : State := { s with patterns := v }
def State.withOutputs (s : State) (v : Vector Output 4) : State := { s with outputs := v }
def State.withPorts (s : State) (v : Vector Port 8) : State := { s with ports := v }
def State.withTrunk (s : State) (t : Trunk) : State := { s with trunk := t }
def State.withMemory (s : State) (m : Option Remembered) : State := { s with memory := m }
def State.withTimer (s : State) (t : Word) : State := { s with timer := t }
def State.withRstnLow (s : State) (b : Bool) : State := { s with rstnLow := b }
def State.withFreeReads (s : State) (n : Nat) : State := { s with freeReads := n }
def State.withPending (s : State) (q : List Instr) : State := { s with pending := q }

/-- The state with one port changed. -/
def State.onPort (s : State) (p : PortIx) (f : Port → Port) : State := s.withPorts (update s.ports p f)

/-- The state with one output changed. -/
def State.onOutput (s : State) (o : OutputIx) (f : Output → Output) : State := s.withOutputs (update s.outputs o f)

/-- The state with one tally changed. -/
def State.onTally (s : State) (t : TallyIx) (f : Tally → Tally) : State := s.withTallies (update s.tallies t f)

/-- The state with one level changed. -/
def State.onLevel (s : State) (l : LevelIx) (f : Level → Level) : State :=
  s.withArbiter { s.arbiter with levels := update s.arbiter.levels l f }

/-- The state with the deferred mark of a port written (R59). -/
def State.setDeferred (s : State) (p : PortIx) (b : Bool) : State :=
  s.withClassifier { s.classifier with deferred := update s.classifier.deferred p fun _ => b }

/-- A saturating counter raised by `n`. -/
def satAdd {w : Nat} (c : BitVec w) (n : Nat) : BitVec w := BitVec.ofNat w (min (c.toNat + n) (2 ^ w - 1))

/-! ## The control lane (R169, R172, R174) -/

/-- The message joins the control lane behind those already in it. -/
def State.queueControl (s : State) (m : ControlMessage) (rate : Option LinkRate) : State :=
  s.withTrunk { s.trunk with control := s.trunk.control ++ [⟨m, rate⟩] }

/-- The overrun counter increases by 1 (R174). -/
def State.overrun (s : State) : State :=
  s.withTrunk { s.trunk with overruns := satInc s.trunk.overruns }

/-- An ALERT is raised (R172): queued with the lost-alert count, which becomes 0; or dropped and counted. -/
def State.alert (s : State) (content : AlertContent) : State :=
  if s.trunk.room then
    s.withTrunk { s.trunk with
      control := s.trunk.control ++ [⟨.alert s.trunk.lostAlerts content, none⟩]
      lostAlerts := 0 }
  else s.withTrunk { s.trunk with lostAlerts := satInc s.trunk.lostAlerts }

/-- A transmit-queue entry of port `p` has left: the RESULT of a confirmed entry joins the lane in the step in which
its reservation is used (R145, R148, R170). -/
def State.queueResult (s : State) (p : PortIx) (outcome : SendOutcome) (e : TxEntry) (attempts : Nat) : State :=
  match e.request with
  | none => s
  | some request =>
    s.withTrunk { s.trunk with
      control := s.trunk.control ++ [⟨.result p request e.tag e.data outcome attempts, none⟩]
      reservations := s.trunk.reservations - 1 }

/-- The RESULTs of entries that leave together, head first; only the head can have had attempts (R139, R153). -/
def State.queueResults (s : State) (p : PortIx) (outcome : SendOutcome) : List TxEntry → Nat → State
  | [], _ => s
  | e :: rest, attempts => (s.queueResult p outcome e attempts).queueResults p outcome rest 0

/-! ## Levels (R4, R6, R12, R13) -/

/-- The two sources have the same kind and the same source index (R4). -/
def Source.sameSource (x y : Source) : Bool := x.kind == y.kind && x.index == y.index

/-- The record that an assertion creates (R4). -/
def Record.first (source : Source) (data : Byte) (time : Word) : Record :=
  ⟨source, data, data, time, time, 1, false⟩

/-- The record after a further assertion has joined it (R4). -/
def Record.join (r : Record) (source : Source) (data : Byte) (time : Word) : Record :=
  { r with
    latestData := data
    latestTime := time
    count := satInc r.count
    mixed := r.mixed || !r.source.sameSource source }

/-- An assertion is taken (R4): it creates the level's pending record or coalesces into it. -/
def State.assertLevel (s : State) (l : LevelIx) (source : Source) (data : Byte) (time : Word) : State :=
  s.onLevel l fun level =>
    { level with pending := some (match level.pending with
        | none => Record.first source data time
        | some r => r.join source data time) }

/-- An assertion to a level that may be absent, stamped with the part timer (R3, R149, R102). -/
def State.assertOptional (s : State) (l : Option LevelIx) (source : Source) (data : Byte) : State :=
  match l with
  | none => s
  | some level => s.assertLevel level source data s.timer

/-- A withdrawal (R6). -/
def State.withdrawLevel (s : State) (l : LevelIx) : State := s.onLevel l fun level => { level with pending := none }

/-- A level leaves service by DONE or auto-done (R12, R13): it leaves its place in the stack with its in-service
record, and its band rotates if its rotation flag is on. -/
def Arbiter.complete (a : Arbiter) (l : LevelIx) : Arbiter :=
  { a with
    stack := a.stack.filter fun e => e.level != l
    bands := if a.bands[bandOf l].rotation then
        update a.bands (bandOf l) fun b => { b with pointer := memberOf l }
      else a.bands }

/-- The arbiter leaves QUIESCENT on a valid downstream message (R41). -/
def Arbiter.release (a : Arbiter) : Arbiter :=
  if a.state = .quiescent then { a with state := .idle, consecutiveLapses := 0 } else a

/-! ## Offering (R27, R28) -/

/-- The parts of the offer condition other than room: IDLE, and an eligible level with its pending record. -/
def Arbiter.candidate (a : Arbiter) : Option (LevelIx × Record) :=
  if a.state = .idle then do
    let l ← a.highest
    let r ← a.levels[l].pending
    return (l, r)
  else none

/-- The arbiter makes an offer where the offer condition holds (R27): the presentation number increases, a NOTICE
with a snapshot of the count is queued, and the arbiter enters PRESENTING. -/
def State.makeOffer (s : State) : State :=
  if s.trunk.room then
    match s.arbiter.candidate with
    | none => s
    | some (l, r) =>
      (s.withArbiter { s.arbiter with number := s.arbiter.number + 1, state := .presenting l }).queueControl
        (.notice (s.arbiter.number + 1) l r.source.kind r.count) none
  else s

/-! ## RSTN (R177) -/

/-- While RSTN is held low the part does nothing but end a message in transmission (R130, R177, log 8). -/
def State.whileRunning (s : State) (f : State → State) : State := if s.rstnLow then s else f s

end Sys2Proof.Machine
end

