-- ==== Sys2Proof/Machine/PortOps.lean ====
section
/-! DEFINITION. The shared operations of a branch port and its line: raising and withdrawing hold reasons, handing
frames to the line, the silence timer, the intake, the transmit queue, and the changes of presence (chapters 6, 7). -/

namespace Sys2Proof.Machine

/-! ## Reasons (R112, R113) -/

/-- The reasons with one raised or withdrawn. -/
def Reasons.set (r : Reasons) (reason : Reason) (stands : Bool) : Reasons :=
  match reason with
  | .disabled => { r with disabled := stands }
  | .faulted => { r with faulted := stands }
  | .backpressure => { r with backpressure := stands }
  | .preempt => { r with preempt := stands }

/-- The reasons that cut an attempt (R113). -/
def Reason.cuts : Reason → Bool
  | .disabled => true
  | .faulted => true
  | _ => false

/-- The port with its line's activity and ready frame replaced. -/
def Port.withLine (pt : Port) (activity : Activity) (ready : Option Ready) : Port :=
  { pt with line := { pt.line with activity, ready } }

/-- The port with one reason of its line raised or withdrawn. -/
def Port.setReason (pt : Port) (reason : Reason) (stands : Bool) : Port :=
  { pt with line := { pt.line with reasons := pt.line.reasons.set reason stands } }

/-- The port counts a held-off report (R117, R140). -/
def Port.countHeldOff (pt : Port) : Port :=
  { pt with stats := { pt.stats with preemptedInbound := satInc pt.stats.preemptedInbound } }

/-- A reason is raised (R113, R117, R119, R123). An inbound frame before its commit point is held off, and reported
unless it is dropped; DISABLED and FAULTED cut an attempt, whose 100 µs a later CONFIG reset waits for (R129); in the
close of a cut CLK is low already; else the reason waits for the end of what is in progress. -/
def Port.raise (pt : Port) (reason : Reason) : Port :=
  match pt.line.activity with
  | .none => pt.setReason reason true
  | .inbound bits _ dropped =>
    if pt.line.reasons.any = false ∧ bits.length < 12 then
      let held := (pt.withLine .none pt.line.ready).setReason reason true
      if dropped then held else held.countHeldOff
    else pt.setReason reason true
  | .closing => pt.setReason reason true
  | _ => if reason.cuts then (pt.withLine .closing none).setReason reason true else pt.setReason reason true

/-! ## Silence (R136) -/

/-- The silence timer is started in full, or left stopped where it cannot run: outside PRESENT, with the limit 0,
or while a stopping condition holds (R136). -/
def Port.startSilence (pt : Port) : Port :=
  { pt with silenceTimer :=
      if pt.presence = .present ∧ pt.config.silenceLimit ≠ 0 ∧ pt.line.reasons.backpressure = false ∧
          pt.line.attempting = false then some pt.config.silenceLimit
      else none }

/-! ## Ready frames (R120, R126, R146) -/

/-- PREEMPT is raised where its two conditions hold together (R126). It is not raised for a probe. -/
def Port.testPreempt (pt : Port) : Port :=
  match pt.line.ready with
  | none => pt
  | some r =>
    if r.probe = false ∧ pt.config.precedence = .preempt ∧ pt.line.beforeCommit then pt.raise .preempt else pt

/-- The port hands the head of its transmit queue to the line (R146), if it is PRESENT and the line has no ready
frame. -/
def Port.handHead (pt : Port) : Port :=
  match pt.line.ready, pt.queue with
  | none, e :: _ =>
    if pt.presence = .present then (pt.withLine pt.line.activity (some ⟨false, e.tag, e.data⟩)).testPreempt else pt
  | _, _ => pt

/-- A ready frame is withdrawn from the line, and PREEMPT with it (R120, R126). -/
def Port.withdrawReady (pt : Port) : Port := (pt.withLine pt.line.activity none).setReason .preempt false

/-! ## The intake (R141, R142) -/

/-- The port acts on a change of its intake fill (R142); the silence timer stands stopped while BACKPRESSURE stands
and starts in full at its withdrawal (R136). -/
def Port.fillChanged (pt : Port) : Port :=
  if Config.backpressureFill ≤ pt.intake.length then
    if pt.line.reasons.backpressure then pt
    else { pt.raise .backpressure with silenceTimer := none }
  else if pt.line.reasons.backpressure then (pt.setReason .backpressure false).startSilence
  else pt

/-- A frame of tag 0-6 joins the intake, or is lost where it is full (R141). -/
def Port.joinIntake (pt : Port) (f : Frame) : Port :=
  if Config.portEntries ≤ pt.intake.length then
    { pt with stats := { pt.stats with framesLost := satInc pt.stats.framesLost } }
  else { pt with intake := pt.intake ++ [f] }.fillChanged

/-- The head frame leaves the intake (R65). -/
def Port.dropHead (pt : Port) : Port := { pt with intake := pt.intake.tail }.fillChanged

/-! ## The transmit queue (R139, R143, R147) -/

/-- Every entry of the transmit queue leaves with this outcome, head first, and a ready frame is withdrawn (R139). -/
def State.emptyQueue (s : State) (p : PortIx) (outcome : SendOutcome) : State :=
  (s.queueResults p outcome s.ports[p].queue s.ports[p].attempts).onPort p fun pt =>
    { pt.withdrawReady with queue := [], attempts := 0 }

/-! ## Presence (R133, R135, R137, R138) -/

/-- The data of a presence assertion (Table 1-3). -/
def arrived : Byte := 1
def silent : Byte := 2

/-- The reason codes of a port fault (R138). -/
def lineErrorsCode : Byte := 1
def sendFailuresCode : Byte := 2

/-- Entry into PRESENT from ABSENT (R133). A probe that has not begun is withdrawn (R134). -/
def State.enterPresent (s : State) (p : PortIx) : State :=
  (s.onPort p fun pt =>
    { pt.withdrawReady with
      presence := .present
      probeDue := false
      probeTimer := none
      lineErrorRun := 0 }.startSilence).assertOptional s.ports[p].config.presenceLevel (.presence p) arrived

/-- Entry into FAULTED from ABSENT or PRESENT (R138). -/
def State.enterFaulted (s : State) (p : PortIx) (code : Byte) : State :=
  ((s.onPort p fun pt =>
    { pt.raise .faulted with
      presence := .faulted
      silenceTimer := none
      probeTimer := none
      probeDue := false }).emptyQueue p .portFaulted).assertOptional s.ports[p].config.faultLevel (.portFault p) code

/-- The port leaves PRESENT for ABSENT by silence (R137). -/
def State.goSilent (s : State) (p : PortIx) : State :=
  ((s.emptyQueue p .portAbsent).onPort p fun pt =>
    { pt with
      presence := .absent
      endpointType := none
      silenceTimer := none
      probeDue := true
      probeTimer := some Config.probeInterval }).assertOptional s.ports[p].config.presenceLevel (.presence p) silent

/-- A line that a cut put in HELD is released once no reason stands, whether or not its 100 µs have passed (R113, R152). -/
def Port.releaseCut (pt : Port) : Port :=
  match pt.line.activity with
  | .closing => if pt.line.reasons.any then pt else pt.withLine .none pt.line.ready
  | _ => pt

/-- PORT_CONTROL ENABLE in DISABLED or FAULTED (R152). -/
def Port.enable (pt : Port) : Port :=
  { ((pt.setReason .disabled false).setReason .faulted false).releaseCut with
    presence := .absent
    endpointType := none
    probeDue := true
    probeTimer := some Config.probeInterval
    lineErrorRun := 0
    sendFailureRun := 0 }

/-- The port's own part of a DISABLE, after its transmit queue has been emptied (R152): the intake is flushed and
counted, BACKPRESSURE and FAULTED are withdrawn, the timers, the mark and the type go. -/
def Port.flushForDisable (pt : Port) : Port :=
  { (pt.setReason .backpressure false).setReason .faulted false with
    intake := []
    stats := { pt.stats with framesLost := satAdd pt.stats.framesLost pt.intake.length }
    silenceTimer := none
    probeTimer := none
    probeDue := false
    endpointType := none }

/-- PORT_CONTROL DISABLE in ABSENT, PRESENT or FAULTED (R139, R152). -/
def State.disablePort (s : State) (p : PortIx) : State :=
  (((s.onPort p fun pt => { pt.raise .disabled with presence := .disabled }).emptyQueue p .portDisabled).onPort p
    Port.flushForDisable).setDeferred p false

/-- The entries that FLUSH_TX removes: all but an entry in flight (R153). -/
def Port.flushable (pt : Port) : List TxEntry := if pt.attempts = 0 then pt.queue else pt.queue.tail

/-- The port after a FLUSH_TX (R153). -/
def Port.flushTx (pt : Port) : Port :=
  if pt.attempts = 0 then
    match pt.queue with
    | [] => pt
    | _ :: _ => { pt.withdrawReady with queue := [] }
  else { pt with queue := pt.queue.take 1 }

/-- PORT_CONTROL FLUSH_TX (R153). -/
def State.flushTx (s : State) (p : PortIx) : State :=
  (s.queueResults p .flushed s.ports[p].flushable 0).onPort p Port.flushTx

/-! ## Reports of the line (R138, R140) -/

/-- A received frame report (R140, Table 7-3). -/
def State.receivedFrame (s : State) (p : PortIx) (tag : Tag) (data : Byte) : State :=
  let counted := s.onPort p fun pt =>
    { pt with stats := { pt.stats with framesReceived := satInc pt.stats.framesReceived } }
  let keep (pt : Port) : Port :=
    if tag = 7 then { pt with endpointType := some data } else pt.joinIntake ⟨tag, data, s.timer⟩
  match s.ports[p].presence with
  | .disabled =>
    if tag = 7 then counted
    else counted.onPort p fun pt =>
      { pt with stats := { pt.stats with framesLost := satInc pt.stats.framesLost } }
  | .absent => (counted.enterPresent p).onPort p keep
  | .present => counted.onPort p fun pt => keep { pt with lineErrorRun := 0 }.startSilence
  | .faulted => counted.onPort p keep

/-- A line error report (R138, R140): counted in every state; in ABSENT and PRESENT it advances the line-error run,
which faults the port at its limit. -/
def State.lineError (s : State) (p : PortIx) : State :=
  let counted := s.onPort p fun pt =>
    { pt with stats := { pt.stats with lineErrors := satInc pt.stats.lineErrors } }
  match s.ports[p].presence with
  | .disabled => counted
  | .faulted => counted
  | _ =>
    let run := s.ports[p].lineErrorRun + 1
    let advanced := counted.onPort p fun pt => { pt with lineErrorRun := run }
    if Config.lineErrorLimit ≤ run then advanced.enterFaulted p lineErrorsCode else advanced

/-! ## Attempts (R146, R147) -/

/-- The outcomes of an attempt that runs to its end (R121, R122). -/
inductive AttemptResult where
  | ack | nak | noResponse
deriving DecidableEq, Repr

/-- The head entry leaves with DELIVERED (R147). -/
def State.deliverHead (s : State) (p : PortIx) (e : TxEntry) : State :=
  (s.queueResult p .delivered e s.ports[p].attempts).onPort p fun pt =>
    { pt with
      queue := pt.queue.tail
      attempts := 0
      stats := { pt.stats with framesSent := satInc pt.stats.framesSent }
      sendFailureRun := 0 }.handHead

/-- The head entry leaves with FAILED_NAK or FAILED_SILENT (R147); the send-failure run faults the port at its limit
(R138). -/
def State.failHead (s : State) (p : PortIx) (outcome : SendOutcome) (e : TxEntry) : State :=
  let run := s.ports[p].sendFailureRun + 1
  let left := (s.queueResult p outcome e s.ports[p].attempts).onPort p fun pt =>
    { pt with
      queue := pt.queue.tail
      attempts := 0
      stats := { pt.stats with sendFailures := satInc pt.stats.sendFailures }
      sendFailureRun := run }
  if Config.sendFailureLimit ≤ run then left.enterFaulted p sendFailuresCode else left.onPort p Port.handHead

/-- The outcome of an attempt of the head entry (R146). -/
def State.headOutcome (s : State) (p : PortIx) (result : AttemptResult) : State :=
  match s.ports[p].queue with
  | [] => s
  | e :: _ =>
    match result with
    | .ack => s.deliverHead p e
    | .nak =>
      if s.ports[p].attempts < Config.maxAttempts then s.onPort p Port.handHead else s.failHead p .failedNak e
    | .noResponse =>
      if s.ports[p].attempts < Config.maxAttempts then s.onPort p Port.handHead else s.failHead p .failedSilent e

/-- The line hands the port the outcome of an attempt and leaves it (R113, R121, R122); the end of an attempt starts
the silence timer in full (R136). The outcome is that of a probe (R134) or of the head entry (R146). -/
def State.attemptEnds (s : State) (p : PortIx) (result : AttemptResult) : State :=
  let ended := s.onPort p fun pt => (pt.withLine .none none).startSilence
  match s.ports[p].line.ready with
  | none => ended
  | some r =>
    if r.probe then
      if result = .ack ∧ s.ports[p].presence = .absent then ended.enterPresent p else ended
    else ended.headOutcome p result

end Sys2Proof.Machine
end

