-- ==== Sys2Proof/Machine/Operands.lean ====
section
/-! DEFINITION. The operands of requests: how an argument byte is read, with `none` for a value outside its range
(R195, Table 10-7), and the argument records of the longer commands. -/

namespace Sys2Proof.Machine

/-- An index below `n`. -/
def index? (n : Nat) (b : Byte) : Option (Fin n) := if h : b.toNat < n then some ⟨b.toNat, h⟩ else none

/-- An index below `n`, or absent (FFh), or neither. -/
def optionalIndex? (n : Nat) (b : Byte) : Option (Option (Fin n)) :=
  if b = absentCode then some none else (index? n b).map some

/-- A setting with codes 0 and 1: OFF and ON, UNMASKED and MASKED, KEEP and CLEAR. -/
def setting? (b : Byte) : Option Bool := if b = 0 then some false else if b = 1 then some true else none

/-- A bank (Table 10-3). -/
def bank? (b : Byte) : Option Bank := if b = 0 then some .a else if b = 1 then some .b else none

/-- A mode (Table 10-3). -/
def mode? (b : Byte) : Option Mode :=
  if b = 0 then some .nested else if b = 1 then some .selective else if b = 2 then some .single else none

/-- The eight rates, by code. -/
def LinkRate.all : List LinkRate :=
  [.r9600, .r19200, .r38400, .r57600, .r115200, .r230400, .r460800, .r921600]

/-- A link rate (Table 10-3). -/
def rate? (b : Byte) : Option LinkRate := LinkRate.all[b.toNat]?

/-- A frame tag, 0 to 6. -/
def tag? (b : Byte) : Option Tag := if b.toNat ≤ 6 then some (b.setWidth 3) else none

/-- A tag match, 0 to 6 or ANY. -/
def tagMatch? (b : Byte) : Option (Option Tag) := if b = absentCode then some none else (tag? b).map some

/-- A tone, NONE or 1 to 3 (Table 10-9). -/
def tone? (b : Byte) : Option Tone :=
  if b = 0 then some .steady else if b = 1 then some .one else if b = 2 then some .two
  else if b = 3 then some .three else none

/-- A TALLY step: -127 to 127, and not 0 (R200). -/
def step? (b : Byte) : Option Int := if b = 0x00 ∨ b = 0x80 then none else some b.toInt

/-- An action from its code and its two argument bytes (R72, Table 10-8). -/
def action? (code : BitVec 3) (first second : Byte) : Option Action :=
  if code = 0 then some .discard
  else if code = 1 then (index? 16 first).map .assert
  else if code = 2 then (index? 16 first).map .withdraw
  else if code = 3 then some .forward
  else if code = 4 then do return .tally (← index? 8 first) (← step? second)
  else if code = 5 then do return .signal (← index? 4 first) (← index? 16 second)
  else if code = 6 then (tag? first).map fun tag => .answer tag second
  else none

/-- The entry that LOAD_SELECTOR's seven entry bytes write. With the valid bit clear nothing else is looked at, and
the entry takes cleared form (R52, R72, R200). -/
def selector? (b0 ports tagMatch low high first second : Byte) : Option Selector :=
  if b0.getLsbD 7 then
    if b0 &&& 0x38 = 0 ∧ ports ≠ 0 ∧ low ≤ high then do
      let tag ← tagMatch? tagMatch
      let action ← action? (b0.setWidth 3) first second
      return ⟨true, b0.getLsbD 6, ports, tag, low, high, action⟩
    else none
  else some Selector.cleared

/-- The settings of CONFIGURE_TALLY (R87). -/
structure TallySettings where
  upper : Option Int
  lower : Option Int
  hysteresis : Nat
  target : Option LevelIx
deriving DecidableEq, Repr

/-- A threshold with its presence bit: a signed 16-bit value, high byte first (R194, R199). -/
def threshold (isPresent : Bool) (hi lo : Byte) : Option Int :=
  if isPresent then some (wordOf hi lo).toInt else none

/-- The lower threshold is less than the upper one where both are present (R80). -/
def thresholdsOrdered (upper lower : Option Int) : Bool :=
  match upper, lower with
  | some u, some l => decide (l < u)
  | _, _ => true

/-- The target level with its presence bit; the byte of an absent level is not checked (R195, R199). -/
def target? (isPresent : Bool) (b : Byte) : Option (Option LevelIx) :=
  if isPresent then (index? 16 b).map some else some none

/-- CONFIGURE_TALLY's settings from its flags byte and its values (R87, R199). -/
def tallySettings? (flags upperHi upperLo lowerHi lowerLo h target : Byte) : Option TallySettings :=
  let upper := threshold (flags.getLsbD 0) upperHi upperLo
  let lower := threshold (flags.getLsbD 1) lowerHi lowerLo
  if flags &&& 0xF8 = 0 ∧ h ≠ 0 ∧ thresholdsOrdered upper lower then
    (target? (flags.getLsbD 2) target).map fun level => ⟨upper, lower, h.toNat, level⟩
  else none

/-- LOAD_PATTERN's pattern (R92, R201). -/
def pattern? (mark space count : Word) (tone flags completion : Byte) : Option Pattern :=
  let longMark := flags.getLsbD 0
  if mark ≠ 0 ∧ count.toNat ≤ 1000 ∧ flags &&& 0xFE = 0 ∧ (longMark = true ∨ space ≠ 0) ∧
      (longMark = false ∨ count ≠ 0) then do
    let t ← tone? tone
    let level ← optionalIndex? 16 completion
    return ⟨mark, space, count.toNat, t, longMark, level⟩
  else none

/-- A silence limit: 0, or 100 to 60000 ms (R151). -/
def silenceLimitOk (n : Nat) : Bool := n == 0 || (decide (100 ≤ n) && decide (n ≤ 60000))

/-- CONFIGURE_PORT's configuration (R151, R199). -/
def portConfig? (settings : Byte) (limit : Word) (presence fault : Byte) : Option PortConfig :=
  if settings &&& 0xF8 = 0 ∧ silenceLimitOk limit.toNat then do
    let presenceLevel ← optionalIndex? 16 presence
    let faultLevel ← optionalIndex? 16 fault
    return {
      disposition := if settings.getLsbD 0 then .discard else .forward
      overflow := if settings.getLsbD 1 then .hold else .drop
      precedence := if settings.getLsbD 2 then .preempt else .yield
      silenceLimit := limit.toNat
      presenceLevel
      faultLevel }
  else none

end Sys2Proof.Machine
end

