-- ==== Sys2Proof/Machine/Requests.lean ====
section
/-! DEFINITION. What every downstream message shares: the receiver's hand-over of a valid message (R163, R164, R41),
and the request unit's handling of a sequenced request (R178 to R182). -/

namespace Sys2Proof.Machine

/-- What the execution of a sequenced request gives (R178, steps 3 and 4): the state with its effect, the status, the
result data, and the pending rate that a SET_LINK attaches to its REPLY (R158). -/
structure Executed where
  state : State
  status : Status
  data : List Byte
  rate : Option LinkRate
deriving DecidableEq, Repr

/-- The request was carried out, with this effect and this result data. -/
def answerOk (s : State) (data : List Byte) : Executed := ⟨s, .ok, data, none⟩

/-- The request was refused and changed nothing (R184, R185). -/
def refuse (s : State) (status : Status) : Executed := ⟨s, status, [], none⟩

/-- The request's checks gave a value, or the status is RANGE (R185, step 3). -/
def inRange {α : Type} (s : State) (x : Option α) (k : α → Executed) : Executed :=
  match x with
  | some a => k a
  | none => refuse s .range

/-- The receiver takes messages: not in BREAK (R165), and not while RSTN is low (R177). -/
def State.receives (s : State) : Bool := !s.rstnLow && s.trunk.receiver != .inBreak

/-- A valid message reaches its end (R163, R164): the receiver is in HUNT again, its last stop bit stood at mark (R157,
log 30), the arbiter leaves QUIESCENT (R41), and the owner acts. -/
def State.onMessage (s : State) (owner : State → State) : State :=
  if s.receives then
    owner ((s.withTrunk { s.trunk with receiver := .hunt, awaitsMark := false }).withArbiter s.arbiter.release)
  else s

/-- A REPLY (R184). -/
def replyOf (sequence code : Byte) (toSend : Bool) (e : Executed) : Reply :=
  ⟨sequence, code, toSend, e.status, false, e.data⟩

/-- The request unit takes a sequenced request (R178): a duplicate draws the stored REPLY with the repeat flag set
(R180); a request without room is ignored and counted (R181); any other is executed, and its REPLY is stored and
queued on the state that the execution left (R182, R190). -/
def State.sequenced (s : State) (sequence code : Byte) (toSend : Bool) (body : State → Executed) : State :=
  match s.memory.filter fun m => m.sequence == sequence with
  | some m =>
    if s.trunk.room then s.queueControl (.reply { m.reply with repeated := true }) none else s.overrun
  | none =>
    if s.trunk.room then
      let e := body s
      (e.state.withMemory (some ⟨sequence, replyOf sequence code toSend e⟩)).queueControl
        (.reply (replyOf sequence code toSend e)) e.rate
    else s.overrun

/-- A COMMAND message of a command arrives (R185, R199). -/
def State.command (s : State) (c : Command) (sequence : Byte) (body : State → Executed) : State :=
  s.onMessage fun t => t.sequenced sequence c.code false body

end Sys2Proof.Machine
end

