-- ==== Sys2Proof/Machine/PortCommands.lean ====
section
/-! DEFINITION. SEND (R144, R183) and the port commands (section 7.8): what each carries out, and the meaning of its
rows. -/

namespace Sys2Proof.Machine

/-- An entry joins the tail of the transmit queue, and the head is handed to the line (R143, R146). -/
def Port.joinQueue (pt : Port) (e : TxEntry) : Port := { pt with queue := pt.queue ++ [e] }.handHead

/-- The state with one reservation more (R144, R170). -/
def State.reserve (s : State) : State := s.withTrunk { s.trunk with reservations := s.trunk.reservations + 1 }

/-- A SEND is executed by its port (R144, R183, R195). -/
def cmdSend (sequence port tag data confirm : Byte) (s : State) : Executed :=
  inRange s (index? 8 port) fun p => inRange s (tag? tag) fun t => inRange s (setting? confirm) fun confirmed =>
    if s.ports[p].presence ≠ .present then refuse s .notReady
    else if Config.portEntries ≤ s.ports[p].queue.length then refuse s .queueFull
    else if confirmed ∧ Config.controlEntries < s.trunk.load + 2 then refuse s .noReserve
    else
      let joined := s.onPort p fun pt => pt.joinQueue ⟨t, data, if confirmed then some sequence else none⟩
      answerOk (if confirmed then joined.reserve else joined) [number8 (s.ports[p].queue.length + 1)]

/-- A CONFIGURE_PORT's configuration is written (R151): a limit of 0 stops the silence timer, a change from 0 starts
it in full, and any other leaves it as it is (log 11). -/
def Port.configure (pt : Port) (c : PortConfig) : Port :=
  let written := { pt with config := c }
  (if c.silenceLimit = 0 then { written with silenceTimer := none }
    else if pt.config.silenceLimit = 0 then written.startSilence
    else written).testPreempt

/-- CONFIGURE_PORT (R151). -/
def cmdConfigurePort : List Byte → State → Executed
  | [port, settings, limitHi, limitLo, presence, fault], s =>
    inRange s (index? 8 port) fun p =>
    inRange s (portConfig? settings (wordOf limitHi limitLo) presence fault) fun c =>
      answerOk (s.onPort p fun pt => pt.configure c) []
  | _, s => refuse s .badLength

/-- The REPLY of a PORT_CONTROL that was carried out: the presence state after it, and the count (R152). -/
def answerControl (s : State) (p : PortIx) (count : Nat) : Executed :=
  answerOk s [s.ports[p].presence.code, number8 count]

/-- PORT_CONTROL ENABLE (R152). -/
def controlEnable (p : PortIx) (s : State) : Executed :=
  match s.ports[p].presence with
  | .disabled => answerControl (s.onPort p Port.enable) p 0
  | .faulted => answerControl (s.onPort p Port.enable) p 0
  | _ => answerControl s p 0

/-- PORT_CONTROL DISABLE (R152). -/
def controlDisable (p : PortIx) (s : State) : Executed :=
  match s.ports[p].presence with
  | .disabled => answerControl s p 0
  | _ => answerControl (s.disablePort p) p 0

/-- PORT_CONTROL PROBE_NOW (R153). -/
def controlProbeNow (p : PortIx) (s : State) : Executed :=
  match s.ports[p].presence with
  | .absent => answerControl (s.onPort p fun pt => { pt with probeDue := true }) p 0
  | _ => refuse s .notReady

/-- PORT_CONTROL FLUSH_TX (R153). -/
def controlFlushTx (p : PortIx) (s : State) : Executed :=
  answerControl (s.flushTx p) p s.ports[p].flushable.length

/-- The effect of a PORT_CONTROL action on a port; `none` for another action. -/
def controlOf (action : Byte) : Option (PortIx → State → Executed) :=
  if action = enableAction then some controlEnable
  else if action = disableAction then some controlDisable
  else if action = probeNowAction then some controlProbeNow
  else if action = flushTxAction then some controlFlushTx
  else none

/-- PORT_CONTROL (R152, R153). -/
def cmdPortControl : List Byte → State → Executed
  | [port, action], s => inRange s (index? 8 port) fun p => inRange s (controlOf action) fun f => f p s
  | _, s => refuse s .badLength

/-- The line state code (Table 10-3). -/
def LineState.code : LineState → BitVec 2
  | .quiet => 0 | .inbound => 1 | .outbound => 2 | .held => 3

/-- The line stands HELD and no reason stands any more (log 9). -/
def Line.heldWithoutReason (l : Line) : Bool := l.state == .held && l.reasons.first.isNone

/-- The hold reason bits of READ_PORT (Table 10-5): the reported reason when HELD, else 0. What is reported while HELD
without a reason is not stated, and is a free value (log 9). -/
def Line.reasonBits (l : Line) (reads : Nat) : BitVec 2 :=
  match l.state with
  | .held =>
    match l.reasons.first with
    | some r => r.code
    | none => Config.openHoldReason reads
  | _ => 0

/-- The line byte of READ_PORT: the line state in bits 0-1, the hold reason in bits 4-5 (Table 10-5). -/
def Line.byte (l : Line) (reads : Nat) : Byte := (0 : BitVec 2) ++ l.reasonBits reads ++ (0 : BitVec 2) ++ l.state.code

/-- The eight counters in the order of Table 10-5. -/
def Statistics.bytes (x : Statistics) : List Byte :=
  word x.framesReceived ++ word x.lineErrors ++ word x.preemptedInbound ++ word x.framesLost ++ word x.relayDrops ++
  word x.framesSent ++ word x.sendFailures ++ word x.answersLost

/-- The 25 bytes of READ_PORT (Table 10-5). -/
def Port.report (pt : Port) (reads : Nat) : List Byte :=
  [pt.presence.code, pt.line.byte reads, flag 0 pt.endpointType.isSome, pt.endpointType.getD 0,
    number8 pt.intake.length, number8 pt.queue.length, number8 pt.attempts, number8 pt.lineErrorRun,
    number8 pt.sendFailureRun] ++ pt.stats.bytes

/-- READ_PORT (R154). -/
def cmdReadPort : List Byte → State → Executed
  | [port, option], s =>
    inRange s (index? 8 port) fun p => inRange s (setting? option) fun clear =>
      let drawn := if s.ports[p].line.heldWithoutReason then s.withFreeReads (s.freeReads + 1) else s
      answerOk (if clear then drawn.onPort p fun pt => { pt with stats := Statistics.zero } else drawn)
        (s.ports[p].report s.freeReads)
  | _, s => refuse s .badLength

/-! ## The rows -/

/-- SEND (R144, R183). -/
def execSend (sequence port tag data confirm : Byte) (s : State) : Host.Outcome State Fault Refusal :=
  .next (s.onMessage fun t => t.sequenced sequence 0 true (cmdSend sequence port tag data confirm))

/-- CONFIGURE_PORT (R151). -/
def execConfigurePort (sequence : Byte) (arguments : List Byte) (s : State) : Host.Outcome State Fault Refusal :=
  .next (s.command .configurePort sequence (cmdConfigurePort arguments))

/-- PORT_CONTROL ENABLE (R152). -/
def execPortControlEnable (sequence port : Byte) (rest : List Byte) (s : State) : Host.Outcome State Fault Refusal :=
  .next (s.command .portControl sequence (cmdPortControl (port :: enableAction :: rest)))

/-- PORT_CONTROL DISABLE (R152). -/
def execPortControlDisable (sequence port : Byte) (rest : List Byte) (s : State) : Host.Outcome State Fault Refusal :=
  .next (s.command .portControl sequence (cmdPortControl (port :: disableAction :: rest)))

/-- PORT_CONTROL PROBE_NOW (R153). -/
def execPortControlProbeNow (sequence port : Byte) (rest : List Byte) (s : State) : Host.Outcome State Fault Refusal :=
  .next (s.command .portControl sequence (cmdPortControl (port :: probeNowAction :: rest)))

/-- PORT_CONTROL FLUSH_TX (R153). -/
def execPortControlFlushTx (sequence port : Byte) (rest : List Byte) (s : State) : Host.Outcome State Fault Refusal :=
  .next (s.command .portControl sequence (cmdPortControl (port :: flushTxAction :: rest)))

/-- READ_PORT (R154). -/
def execReadPort (sequence : Byte) (arguments : List Byte) (s : State) : Host.Outcome State Fault Refusal :=
  .next (s.command .readPort sequence (cmdReadPort arguments))

end Sys2Proof.Machine
end

