-- ==== Sys2Proof/Machine/SelectorCommands.lean ====
section
/-! DEFINITION. The selector commands (section 3.7): what each carries out, and the meaning of its rows. -/

namespace Sys2Proof.Machine

/-- The classifier with one bank rewritten. -/
def Classifier.withBank (c : Classifier) (which : Bank) (v : Vector Slot 48) : Classifier :=
  match which with
  | .a => { c with bankA := v }
  | .b => { c with bankB := v }

/-- The shadow bank (R54). -/
def Classifier.shadow (c : Classifier) : Bank := c.active.other

/-- The state with one bank rewritten. -/
def State.withBank (s : State) (which : Bank) (v : Vector Slot 48) : State :=
  s.withClassifier (s.classifier.withBank which v)

/-- The result data of LOAD_SELECTOR, CLEAR_SHADOW and COPY_ACTIVE: the shadow bank and the generation. -/
def Classifier.shadowReport (c : Classifier) : List Byte := [c.shadow.code] ++ word c.generation

/-- LOAD_SELECTOR (R72, R200). -/
def cmdLoadSelector : List Byte → State → Executed
  | [index, b0, ports, tag, low, high, first, second], s =>
    inRange s (index? 48 index) fun i => inRange s (selector? b0 ports tag low high first second) fun e =>
      let c := s.classifier
      answerOk (s.withBank c.shadow (update (c.bank c.shadow) i fun _ => ⟨e, 0⟩)) c.shadowReport
  | _, s => refuse s .badLength

/-- CLEAR_SHADOW (R73). -/
def cmdClearShadow : List Byte → State → Executed
  | [], s => answerOk (s.withBank s.classifier.shadow (Vector.replicate 48 Slot.cold)) s.classifier.shadowReport
  | _, s => refuse s .badLength

/-- COPY_ACTIVE (R74). -/
def cmdCopyActive : List Byte → State → Executed
  | [], s =>
    let c := s.classifier
    answerOk (s.withBank c.shadow (mapAll (fun x => { x with hits := 0 }) (c.bank c.active))) c.shadowReport
  | _, s => refuse s .badLength

/-- COMMIT_SELECTORS (R75). -/
def cmdCommitSelectors : List Byte → State → Executed
  | [], s =>
    let c := { s.classifier with active := s.classifier.active.other, generation := s.classifier.generation + 1 }
    answerOk (s.withClassifier c) (word c.generation ++ [c.active.code])
  | _, s => refuse s .badLength

/-- The role of a bank: SHADOW 0, ACTIVE 1 (Table 10-3). -/
def Classifier.role (c : Classifier) (which : Bank) : Byte := if which = c.active then 1 else 0

/-- READ_SELECTOR (R76). -/
def cmdReadSelector : List Byte → State → Executed
  | [bank, index, option], s =>
    inRange s (bank? bank) fun which => inRange s (index? 48 index) fun i =>
    inRange s (setting? option) fun clear =>
      let c := s.classifier
      answerOk (if clear then s.withBank which (update (c.bank which) i fun x => { x with hits := 0 }) else s)
        ([which.code, c.role which] ++ word c.generation ++ (c.bank which)[i].entry.bytes ++
          word (c.bank which)[i].hits)
  | _, s => refuse s .badLength

/-! ## The rows -/

/-- LOAD_SELECTOR (R72). -/
def execLoadSelector (sequence : Byte) (arguments : List Byte) (s : State) : Host.Outcome State Fault Refusal :=
  .next (s.command .loadSelector sequence (cmdLoadSelector arguments))

/-- CLEAR_SHADOW (R73). -/
def execClearShadow (sequence : Byte) (arguments : List Byte) (s : State) : Host.Outcome State Fault Refusal :=
  .next (s.command .clearShadow sequence (cmdClearShadow arguments))

/-- COPY_ACTIVE (R74). -/
def execCopyActive (sequence : Byte) (arguments : List Byte) (s : State) : Host.Outcome State Fault Refusal :=
  .next (s.command .copyActive sequence (cmdCopyActive arguments))

/-- COMMIT_SELECTORS (R75). -/
def execCommitSelectors (sequence : Byte) (arguments : List Byte) (s : State) : Host.Outcome State Fault Refusal :=
  .next (s.command .commitSelectors sequence (cmdCommitSelectors arguments))

/-- READ_SELECTOR (R76). -/
def execReadSelector (sequence : Byte) (arguments : List Byte) (s : State) : Host.Outcome State Fault Refusal :=
  .next (s.command .readSelector sequence (cmdReadSelector arguments))

end Sys2Proof.Machine
end

