-- ==== Sys2Proof/Machine/SignalOps.lean ====
section
/-! DEFINITION. The shared operations of the signal unit (chapter 5) and of the tally bank (chapter 4). -/

namespace Sys2Proof.Machine

/-! ## Bursts (R91, R95 to R102) -/

/-- The burst in which a snapshot begins in MARK (R95). -/
def Snapshot.begin (x : Snapshot) : Burst where
  copy := x
  phase := .mark
  remaining := if x.pattern.longMark then 1 else x.pattern.count
  timeLeft := if x.pattern.longMark then x.pattern.mark.toNat * x.pattern.count else x.pattern.mark.toNat

/-- The burst is continuous (R91). -/
def Burst.continuous (b : Burst) : Bool := !b.copy.pattern.longMark && b.copy.pattern.count == 0

/-- What a start of a loaded pattern does to an output (R95, R96). -/
def Output.start (o : Output) (x : Snapshot) : Output :=
  match o.running with
  | none => { o with running := some x.begin }
  | some _ =>
    { o with
      waiting := some x
      superseded := if o.waiting.isSome then satInc o.superseded else o.superseded }

/-- The waiting snapshot begins in MARK, or the output enters IDLE (R101, R102). -/
def Output.next (o : Output) : Output := { o with running := o.waiting.map Snapshot.begin, waiting := none }

/-- The output after the end of the phase of this burst (R99 to R102). -/
def Output.phaseEnds (o : Output) (b : Burst) : Output :=
  match b.phase with
  | .mark =>
    if b.continuous then
      { o with running := some { b with phase := .space, timeLeft := b.copy.pattern.space.toNat } }
    else if 1 < b.remaining then
      { o with running := some { b with
          phase := .space, remaining := b.remaining - 1, timeLeft := b.copy.pattern.space.toNat } }
    else o.next
  | .space =>
    if b.continuous ∧ o.waiting.isSome then o.next
    else { o with running := some { b with phase := .mark, timeLeft := b.copy.pattern.mark.toNat } }

/-- The end of this phase ends a counted burst (R99, R100, R102). -/
def Burst.endsAtPhase (b : Burst) : Bool := b.phase == .mark && !b.continuous && decide (b.remaining ≤ 1)

/-- A STOP_SIGNAL (R104). -/
def Output.stop (o : Output) : Output := { o with running := none, waiting := none }

/-! ## Tallies (R81 to R86) -/

/-- The tally value nearest to a sum (R81). -/
def clampTally (v : Int) : Int := max (-32768) (min 32767 v)

/-- The data of a crossing assertion (R84). -/
def up : Byte := 1
def down : Byte := 2

/-- The upper arm after its test against the value (R82), and whether it was crossed. -/
def Tally.testUpper (t : Tally) : Bool × Bool :=
  match t.upper with
  | none => (false, false)
  | some u =>
    if t.upperArm then (decide (t.value < u), decide (u ≤ t.value))
    else (decide (t.value ≤ u - t.hysteresis), false)

/-- The lower arm after its test against the value (R83), and whether it was crossed. -/
def Tally.testLower (t : Tally) : Bool × Bool :=
  match t.lower with
  | none => (false, false)
  | some l =>
    if t.lowerArm then (decide (l < t.value), decide (t.value ≤ l))
    else (decide (l + t.hysteresis ≤ t.value), false)

/-- The value and the step count after a step (R81). -/
def Tally.add (t : Tally) (amount : Int) : Tally :=
  { t with value := clampTally (t.value + amount), steps := satInc t.steps }

/-- A step taken whole (R81): the value, then both arms tested against it, each crossing counted. -/
def Tally.step (t : Tally) (amount : Int) : Tally :=
  let a := t.add amount
  { a with
    upperArm := a.testUpper.1
    lowerArm := a.testLower.1
    crossings :=
      let c := if a.testUpper.2 then satInc a.crossings else a.crossings
      if a.testLower.2 then satInc c else c }

/-- The data of the assertions that a step hands to the arbiter, in order (R82, R83, R84). -/
def Tally.crossed (t : Tally) (amount : Int) : List Byte :=
  let a := t.add amount
  (if a.testUpper.2 then [up] else []) ++ (if a.testLower.2 then [down] else [])

/-- A re-evaluation of both arms from the value alone (R86). -/
def Tally.reevaluate (t : Tally) : Tally :=
  { t with
    upperArm := match t.upper with
      | none => false
      | some u => decide (t.value ≤ u - t.hysteresis)
    lowerArm := match t.lower with
      | none => false
      | some l => decide (l + t.hysteresis ≤ t.value) }

/-- The value and the counts cleared and the arms re-evaluated for the value 0 (R88, R90). -/
def Tally.clear (t : Tally) : Tally := { t with value := 0, steps := 0, crossings := 0 }.reevaluate

end Sys2Proof.Machine
end

