-- ==== Sys2Proof/Machine/Classify.lean ====
section
/-! DEFINITION. The frame classifier: the grant and one classification (sections 3.4 to 3.6). -/

namespace Sys2Proof.Machine

/-- The action is FORWARD. -/
def Action.isForward : Action → Bool
  | .forward => true
  | _ => false

/-- The entry of the active bank at an index. -/
def State.activeEntry (s : State) (i : EntryIx) : Selector := (s.classifier.bank s.classifier.active)[i].entry

/-- The entry's hit count increases by 1 (R56, R63). -/
def State.countHit (s : State) (i : EntryIx) : State :=
  s.withBank s.classifier.active
    (update (s.classifier.bank s.classifier.active) i fun x => { x with hits := satInc x.hits })

/-- A frame is forwarded (R67), or its relay is dropped and counted where the lane is full (R68). -/
def State.forward (s : State) (p : PortIx) (f : Frame) (entry : Option EntryIx) : State :=
  if s.trunk.relayFull then
    s.onPort p fun pt => { pt with stats := { pt.stats with relayDrops := satInc pt.stats.relayDrops } }
  else s.withTrunk { s.trunk with relays := s.trunk.relays ++ [⟨p, f.tag, f.data, f.time, entry⟩] }

/-- A TALLY action: the step, and the assertions of its crossings to the target level as it stands (R69, R81,
R84). -/
def State.tallyStep (s : State) (p : PortIx) (f : Frame) (i : TallyIx) (amount : Int) : State :=
  let stepped := s.onTally i fun t => t.step amount
  match s.tallies[i].target with
  | none => stepped
  | some l => (s.tallies[i].crossed amount).foldl (fun t data => t.assertLevel l (.tally i p) data f.time) stepped

/-- A SIGNAL action: a start, or a refusal that is counted where the pattern is not loaded (R70, R97). -/
def State.signalAction (s : State) (o : OutputIx) (i : PatternIx) : State :=
  match s.patterns[i] with
  | none => s.onOutput o fun y => { y with refused := satInc y.refused }
  | some x => s.onOutput o fun y => y.start ⟨i, x⟩

/-- An ANSWER action: the frame joins the transmit queue unconfirmed, or is dropped and counted (R71, R144). -/
def Port.answer (pt : Port) (tag : Tag) (data : Byte) : Port :=
  if pt.presence = .present ∧ pt.queue.length < Config.portEntries then pt.joinQueue ⟨tag, data, none⟩
  else { pt with stats := { pt.stats with answersLost := satInc pt.stats.answersLost } }

/-- The action of entry `i` on a frame of port `p` (section 3.6). `relays` tells whether this entry is the first
FORWARD of the list, the one that relays the frame (R67). -/
def State.act (s : State) (p : PortIx) (f : Frame) (i : EntryIx) (relays : Bool) : Action → State
  | .discard => s
  | .assert l => s.assertLevel l (.selector i p f.tag s.classifier.generation) f.data f.time
  | .withdraw l => s.withdrawLevel l
  | .forward => if relays then s.forward p f (some i) else s
  | .tally t amount => s.tallyStep p f t amount
  | .signal o x => s.signalAction o x
  | .answer tag data => s.onPort p fun pt => pt.answer tag data

/-- The entries of a collected list act in list order, each counted (R63); `forwarded` tells whether a FORWARD has
acted already. -/
def State.actAll (s : State) (p : PortIx) (f : Frame) : List EntryIx → Bool → State
  | [], _ => s
  | i :: rest, forwarded =>
    ((s.countHit i).act p f i (!forwarded) (s.activeEntry i).action).actAll p f rest
      (forwarded || (s.activeEntry i).action.isForward)

/-- The default disposition (R64). -/
def State.disposeByDefault (s : State) (p : PortIx) (f : Frame) : State :=
  match s.ports[p].config.disposition with
  | .forward => s.forward p f none
  | .discard => s

/-- The frame needs a relay (R62, first condition). -/
def State.needsRelay (s : State) (p : PortIx) (list : List EntryIx) : Bool :=
  match list with
  | [] => s.ports[p].config.disposition == .forward
  | _ => list.any fun i => (s.activeEntry i).action.isForward

/-- The classification of a frame with this collected list is deferred (R62). -/
def State.mustDefer (s : State) (p : PortIx) (list : List EntryIx) : Bool :=
  s.needsRelay p list && s.trunk.relayFull && s.ports[p].config.overflow == .hold

/-- One classification of the head frame `f` of port `p` (R60 to R65). -/
def State.classifyFrame (s : State) (p : PortIx) (f : Frame) : State :=
  let list := s.classifier.collected p f
  if s.mustDefer p list then s.setDeferred p true
  else
    let acted := if list.isEmpty then s.disposeByDefault p f else s.actAll p f list false
    (acted.onPort p Port.dropHead).setDeferred p false

/-- The grant moves the grant pointer to the port after the granted one (R58). -/
def State.moveGrant (s : State) (p : PortIx) : State := s.withClassifier { s.classifier with grant := p + 1 }

/-- The classifier grants a port, if one is grantable, and classifies its head frame (R58, R60). -/
def State.classify (s : State) : State :=
  match s.granted with
  | none => s
  | some p =>
    match s.ports[p].intake with
    | [] => s
    | f :: _ => (s.moveGrant p).classifyFrame p f

/-- CLASSIFY (R58, R60). Where no port is grantable the classifier waits (R58). -/
def execClassify (s : State) : Host.Outcome State Fault Refusal := .next (s.whileRunning State.classify)

/-- The phase in progress on an output ends (R98 to R102): a counted burst that ends asserts its completion level
before the waiting burst begins. -/
def State.phaseEnds (s : State) (o : OutputIx) : State :=
  match s.outputs[o].running with
  | none => s
  | some b =>
    let told :=
      if b.endsAtPhase then
        s.assertOptional b.copy.pattern.completion (.signal o) (number8 b.copy.index)
      else s
    told.onOutput o fun y => y.phaseEnds b

/-- PHASE_END (R98). An IDLE output has no phase (R93). -/
def execPhaseEnd (output : OutputIx) (s : State) : Host.Outcome State Fault Refusal :=
  .next (s.whileRunning fun t => t.phaseEnds output)

end Sys2Proof.Machine
end

