-- ==== Sys2Proof/Machine/Handshake.lean ====
section
/-! DEFINITION. The service handshake (chapter 2): TAKE, DONE, RECALL, the offer and the take timer. -/

namespace Sys2Proof.Machine

/-- The offered level of an outstanding offer that has this number (R33). -/
def Arbiter.offerNumbered (a : Arbiter) (number : Byte) : Option LevelIx :=
  if a.number = number then a.state.offered else none

/-- The level moves into service with its pending record (R33, step 1): its pending record becomes absent and it is
pushed on the stack. -/
def Arbiter.push (a : Arbiter) (l : LevelIx) (r : Record) : Arbiter :=
  { a with
    levels := update a.levels l fun level => { level with pending := none }
    stack := ⟨l, r⟩ :: a.stack }

/-- The offer ends with TAKEN or VOID (R33, step 4, R34). -/
def Arbiter.endOffer (a : Arbiter) : Arbiter := { a with state := .idle, consecutiveLapses := 0 }

/-- A TAKE that finds its offer and its level eligible (R33, R35). -/
def State.taken (s : State) (l : LevelIx) (r : Record) : State :=
  let pushed := (s.withArbiter (s.arbiter.push l r)).queueControl (.detail (.taken s.arbiter.number l r)) none
  let settled := if s.arbiter.levels[l].autoDone then pushed.arbiter.complete l else pushed.arbiter
  pushed.withArbiter settled.endOffer

/-- A TAKE is taken by the arbiter (R32 to R36). -/
def State.take (s : State) (number : Byte) : State :=
  if s.trunk.room then
    match s.arbiter.offerNumbered number with
    | none => s.queueControl (.detail (.stale number)) none
    | some l =>
      match s.arbiter.levels[l].pending, s.arbiter.eligible l with
      | some r, true => s.taken l r
      | _, _ => (s.queueControl (.detail (.void number l)) none).withArbiter s.arbiter.endOffer
  else s.overrun

/-- A level in service is completed (R43). -/
def State.complete (s : State) (l : LevelIx) : State := s.withArbiter (s.arbiter.complete l)

/-- The level in the stack that a DONE value names (R43, R46). -/
def Arbiter.named (a : Arbiter) (value : Byte) : Option LevelIx :=
  if h : value.toNat < 16 then
    if a.inStack ⟨value.toNat, h⟩ then some ⟨value.toNat, h⟩ else none
  else none

/-- A DONE is taken by the arbiter (R43, R44, R46). -/
def State.done (s : State) (value : Byte) : State :=
  if value = currentCode then
    match s.arbiter.current with
    | some l => s.complete l
    | none => s.alert (.doneRefused .noneInService value)
  else
    match s.arbiter.named value with
    | some l => s.complete l
    | none => s.alert (.doneRefused .notInService value)

/-- The stack entry that a RECALL value names (R47). -/
def Arbiter.recalled (a : Arbiter) (value : Byte) : Option InService :=
  a.stack.find? fun e => e.level.val == value.toNat

/-- A RECALL is taken by the arbiter (R47). -/
def State.recall (s : State) (value : Byte) : State :=
  if s.trunk.room then
    match s.arbiter.recalled value with
    | some e => s.queueControl (.detail (.recalled e.level e.record)) none
    | none => s.alert (.recallRefused value)
  else s.overrun

/-- The take timer of an offer of this level runs out (R39, R40). -/
def State.lapse (s : State) (l : LevelIx) : State :=
  let consecutive := s.arbiter.consecutiveLapses + 1
  let total := satInc s.arbiter.totalLapses
  let counted := { s.arbiter with state := .idle, consecutiveLapses := consecutive, totalLapses := total }
  if s.arbiter.lapseLimit ≤ consecutive then
    (s.withArbiter { counted with state := .quiescent }).alert (.quiescent consecutive total l)
  else s.withArbiter counted

/-! ## The rows -/

/-- TAKE (R32, R33). -/
def execTake (number : Byte) (s : State) : Host.Outcome State Fault Refusal :=
  .next (s.onMessage fun t => t.take number)

/-- DONE (R43). -/
def execDone (value : Byte) (s : State) : Host.Outcome State Fault Refusal :=
  .next (s.onMessage fun t => t.done value)

/-- DONE naming CURRENT (R44). -/
def execDoneCurrent (s : State) : Host.Outcome State Fault Refusal :=
  .next (s.onMessage fun t => t.done currentCode)

/-- RECALL (R47). -/
def execRecall (value : Byte) (s : State) : Host.Outcome State Fault Refusal :=
  .next (s.onMessage fun t => t.recall value)

/-- OFFER (R27). Where the offer condition does not hold, nothing happens (log 3). -/
def execOffer (s : State) : Host.Outcome State Fault Refusal := .next (s.whileRunning State.makeOffer)

/-- TAKE_TIMER_EXPIRY (R39). The timer runs only in AWAITING (R31). -/
def execTakeTimerExpiry (s : State) : Host.Outcome State Fault Refusal :=
  .next (s.whileRunning fun t =>
    match t.arbiter.state with
    | .awaiting l _ => t.lapse l
    | _ => t)

end Sys2Proof.Machine
end

