-- ==== Sys2Proof/Machine/LineEvents.lean ====
section
/-! DEFINITION. The events of a branch line and its port's timers (chapters 6 and 7): the clocks and ends of frames,
the request-to-send, the probe, and silence. -/

namespace Sys2Proof.Machine

/-- CLK falls on a QUIET line (R114): clock 1 of an inbound frame; PREEMPT is tested (R126). -/
def Port.inboundBegins (pt : Port) : Port :=
  if pt.line.state = .quiet then (pt.withLine (.inbound [] true false) pt.line.ready).testPreempt else pt

/-- The endpoint makes an edge on CLK while DATA reads at this level (R108). In an inbound frame a rising edge gives
the clock and samples DATA (R114). In an attempt the first falling edge ends the wait (R121), and at the rising edge
of clock 15 the answer is sampled (R110). After clock 15, and while the part holds CLK, edges count for nothing
(R110, R108). -/
def Port.clock (pt : Port) (edge : Edge) (dataHigh : Bool) : Port :=
  match pt.line.activity, edge with
  | .none, .falling => pt.inboundBegins
  | .inbound bits true dropped, .rising => pt.withLine (.inbound (bits ++ [dataHigh]) false dropped) pt.line.ready
  | .inbound bits false dropped, .falling =>
    if bits.length < 15 then pt.withLine (.inbound bits true dropped) pt.line.ready else pt
  | .awaitClock, .falling => pt.withLine (.outbound 0 true false) pt.line.ready
  | .outbound given true _, .rising =>
    pt.withLine (.outbound (given + 1) false (given + 1 == 15 && !dataHigh)) pt.line.ready
  | .outbound given false answered, .falling =>
    if given < 15 then pt.withLine (.outbound given true answered) pt.line.ready else pt
  | _, _ => pt

/-- The acknowledge slot of an inbound frame ends (R115, R119): the line hands over what it received, unless the
frame is dropped, and leaves the frame. -/
def State.inboundEnds (s : State) (p : PortIx) : State :=
  match s.ports[p].line.activity with
  | .inbound bits _ dropped =>
    if bits.length < 15 then s
    else
      let ended := s.onPort p fun pt => pt.withLine .none pt.line.ready
      if dropped then ended
      else if goodFrame (bits.take 14) then ended.receivedFrame p (sampledTag bits) (sampledData bits)
      else ended.lineError p
  | _ => s

/-- 2 ms pass without an edge before the rising edge of clock 15 (R118, R119). -/
def State.inboundBreaks (s : State) (p : PortIx) : State :=
  match s.ports[p].line.activity with
  | .inbound bits _ dropped =>
    if bits.length < 15 then
      let ended := s.onPort p fun pt => pt.withLine .none pt.line.ready
      if dropped then ended else ended.lineError p
    else s
  | _ => s

/-- A request-to-send begins (R120): the attempt of a head entry is counted (R146), and the silence timer stands
stopped while the attempt is in progress (R136). -/
def Port.beginAttempt (pt : Port) (fromHeld : Bool) (r : Ready) : Port :=
  { pt.withLine (.holdPhase fromHeld) (some r) with
    silenceTimer := none
    attempts := if r.probe then pt.attempts else pt.attempts + 1 }

/-- The line looks whether a ready frame may begin its request-to-send (R120): from QUIET with both wires high, or
from HELD while only BACKPRESSURE and PREEMPT stand; a probe begins only from QUIET (R126). -/
def Port.requestToSend (pt : Port) (clkHigh dataHigh : Bool) : Port :=
  match pt.line.activity, pt.line.ready with
  | .none, some r =>
    if pt.line.reasons.any then
      if pt.line.reasons.disabled = false ∧ pt.line.reasons.faulted = false ∧ r.probe = false then
        pt.beginAttempt true r
      else pt
    else if clkHigh ∧ dataHigh then pt.beginAttempt false r
    else pt
  | _, _ => pt

/-- CLK has been held low for 100 µs in a hold phase (R120): DATA goes low, PREEMPT is withdrawn (R126), CLK is
released. -/
def Port.startBit (pt : Port) : Port :=
  match pt.line.activity with
  | .holdPhase _ => (pt.withLine .awaitClock pt.line.ready).setReason .preempt false
  | _ => pt

/-- The acknowledge slot of an outbound frame ends (R121). -/
def State.attemptSlotEnds (s : State) (p : PortIx) : State :=
  match s.ports[p].line.activity with
  | .outbound given _ answered =>
    if given < 15 then s else s.attemptEnds p (if answered then .ack else .nak)
  | _ => s

/-- A limit of an attempt passes (R122): the response limit before the first clock, or the clock gap before the
rising edge of clock 15. -/
def State.attemptTimesOut (s : State) (p : PortIx) : State :=
  match s.ports[p].line.activity with
  | .awaitClock => s.attemptEnds p .noResponse
  | .outbound given _ _ => if given < 15 then s.attemptEnds p .noResponse else s
  | _ => s

/-- CLK has been held for 100 µs after a cut (R123, step 3): the line is released, unless a reason stands (R113). -/
def Port.cutEnds (pt : Port) : Port :=
  match pt.line.activity with
  | .closing => pt.withLine .none pt.line.ready
  | _ => pt

/-- The probe timer of an ABSENT port expires (R134): the mark is set, and the timer starts again. -/
def Port.probeTimerExpires (pt : Port) : Port :=
  match pt.probeTimer with
  | none => pt
  | some _ => { pt with probeDue := true, probeTimer := some Config.probeInterval }

/-- The probe frame: tag 7, data 0 (R134). -/
def probeFrame : Ready := ⟨true, 7, 0⟩

/-- The port hands a probe to its line (R134): the mark is set, and the line is QUIET with both wires high. -/
def Port.handProbe (pt : Port) (clkHigh dataHigh : Bool) : Port :=
  if pt.presence = .absent ∧ pt.probeDue = true ∧ pt.line.state = .quiet ∧ pt.line.ready = none ∧
      clkHigh = true ∧ dataHigh = true then
    { pt.withLine pt.line.activity (some probeFrame) with probeDue := false }
  else pt

/-! ## The rows. An event whose own condition does not hold changes nothing (log 3). -/

/-- INBOUND_FRAME_BEGINS (R114). -/
def execInboundFrameBegins (port : PortIx) (s : State) : Host.Outcome State Fault Refusal :=
  .next (s.whileRunning fun t => t.onPort port Port.inboundBegins)

/-- CLOCK_GIVEN (R108, R114, R121). -/
def execClockGiven (port : PortIx) (edge : Edge) (dataHigh : Bool) (s : State) : Host.Outcome State Fault Refusal :=
  .next (s.whileRunning fun t => t.onPort port fun pt => pt.clock edge dataHigh)

/-- INBOUND_FRAME (R115). -/
def execInboundFrame (port : PortIx) (s : State) : Host.Outcome State Fault Refusal :=
  .next (s.whileRunning fun t => t.inboundEnds port)

/-- FRAME_BROKEN (R118). -/
def execFrameBroken (port : PortIx) (s : State) : Host.Outcome State Fault Refusal :=
  .next (s.whileRunning fun t => t.inboundBreaks port)

/-- PROBE_TIMER_EXPIRY (R134). -/
def execProbeTimerExpiry (port : PortIx) (s : State) : Host.Outcome State Fault Refusal :=
  .next (s.whileRunning fun t => t.onPort port Port.probeTimerExpires)

/-- PROBE (R134). -/
def execProbe (port : PortIx) (clkHigh dataHigh : Bool) (s : State) : Host.Outcome State Fault Refusal :=
  .next (s.whileRunning fun t => t.onPort port fun pt => pt.handProbe clkHigh dataHigh)

/-- REQUEST_TO_SEND (R120). -/
def execRequestToSend (port : PortIx) (clkHigh dataHigh : Bool) (s : State) : Host.Outcome State Fault Refusal :=
  .next (s.whileRunning fun t => t.onPort port fun pt => pt.requestToSend clkHigh dataHigh)

/-- START_BIT (R120). -/
def execStartBit (port : PortIx) (s : State) : Host.Outcome State Fault Refusal :=
  .next (s.whileRunning fun t => t.onPort port Port.startBit)

/-- ATTEMPT_OUTCOME (R121, R146). -/
def execAttemptOutcome (port : PortIx) (s : State) : Host.Outcome State Fault Refusal :=
  .next (s.whileRunning fun t => t.attemptSlotEnds port)

/-- NO_RESPONSE (R122). -/
def execNoResponse (port : PortIx) (s : State) : Host.Outcome State Fault Refusal :=
  .next (s.whileRunning fun t => t.attemptTimesOut port)

/-- CUT_END (R123). -/
def execCutEnd (port : PortIx) (s : State) : Host.Outcome State Fault Refusal :=
  .next (s.whileRunning fun t => t.onPort port Port.cutEnds)

/-- SILENCE_EXPIRY (R137). The timer runs in PRESENT only (R136). -/
def execSilenceExpiry (port : PortIx) (s : State) : Host.Outcome State Fault Refusal :=
  .next (s.whileRunning fun t =>
    if t.ports[port].presence = .present ∧ t.ports[port].silenceTimer.isSome then t.goSilent port else t)

end Sys2Proof.Machine
end

