-- ==== Sys2Proof/Machine/LevelCommands.lean ====
section
/-! DEFINITION. The commands on levels, bands and the arbiter (sections 1.8 and 2.9): what each carries out, and the
meaning of its rows. -/

namespace Sys2Proof.Machine

/-- The masks of all levels rewritten from their present values (R22). -/
def State.mapMasks (s : State) (f : LevelIx → Bool → Bool) : State :=
  s.withArbiter { s.arbiter with
    levels := tabulate fun l => { s.arbiter.levels[l] with masked := f l s.arbiter.levels[l].masked } }

/-- The set of masked levels. -/
def Arbiter.maskSet (a : Arbiter) : Word := levelSet fun l => a.levels[l].masked

/-- The set of pending levels. -/
def Arbiter.pendingSet (a : Arbiter) : Word := levelSet fun l => a.levels[l].pending.isSome

/-- CONFIGURE_LEVEL (R21). -/
def cmdConfigureLevel : List Byte → State → Executed
  | [level, mask, auto], s =>
    inRange s (index? 16 level) fun l => inRange s (setting? mask) fun masked =>
    inRange s (setting? auto) fun autoDone =>
      answerOk (s.onLevel l fun x => { x with masked, autoDone }) []
  | _, s => refuse s .badLength

/-- CONFIGURE_BAND (R21). -/
def cmdConfigureBand : List Byte → State → Executed
  | [band, rotate, point], s =>
    inRange s (index? 4 band) fun b => inRange s (setting? rotate) fun rotation =>
    inRange s (index? 4 point) fun pointer =>
      answerOk (s.withArbiter { s.arbiter with bands := update s.arbiter.bands b fun _ => ⟨rotation, pointer⟩ }) []
  | _, s => refuse s .badLength

/-- The mask of a level after a SET_MASKS operation with this level set (R22); `none` for another operation. -/
def maskOperation? (operation : Byte) (set : Word) : Option (LevelIx → Bool → Bool) :=
  if operation = assignOperation then some fun l _ => set.getLsbD l
  else if operation = maskOperation then some fun l masked => masked || set.getLsbD l
  else if operation = unmaskOperation then some fun l masked => masked && !set.getLsbD l
  else none

/-- SET_MASKS (R22). -/
def cmdSetMasks : List Byte → State → Executed
  | [operation, hi, lo], s =>
    inRange s (maskOperation? operation (wordOf hi lo)) fun f =>
      answerOk (s.mapMasks f) (word (s.mapMasks f).arbiter.maskSet)
  | _, s => refuse s .badLength

/-- ASSERT_LEVEL (R23). -/
def cmdAssertLevel : List Byte → State → Executed
  | [level, value], s =>
    inRange s (index? 16 level) fun l =>
      let t := s.assertLevel l .host value s.timer
      answerOk t [((t.arbiter.levels[l].pending.map Record.count).getD 0)]
  | _, s => refuse s .badLength

/-- WITHDRAW_LEVEL (R23). -/
def cmdWithdrawLevel : List Byte → State → Executed
  | [level], s =>
    inRange s (index? 16 level) fun l =>
      answerOk (s.withdrawLevel l) [((s.arbiter.levels[l].pending.map Record.count).getD 0)]
  | _, s => refuse s .badLength

/-- The 32 bytes of READ_LEVEL (Table 10-6). -/
def Arbiter.levelReport (a : Arbiter) (l : LevelIx) : List Byte :=
  [flag 0 a.levels[l].masked ||| flag 1 a.levels[l].autoDone ||| flag 2 (a.eligible l) |||
      flag 3 (a.current == some l) ||| flag 4 a.levels[l].pending.isSome ||| flag 5 (a.inService l).isSome,
    number8 (bandOf l), number8 (a.rank l), ((a.stackPlace l).map number8).getD absentCode] ++
  recordBytes a.levels[l].pending ++ recordBytes (a.inService l)

/-- READ_LEVEL (R23). -/
def cmdReadLevel : List Byte → State → Executed
  | [level], s => inRange s (index? 16 level) fun l => answerOk s (s.arbiter.levelReport l)
  | _, s => refuse s .badLength

/-- A take limit of 5 to 2000 ms and a lapse limit of 1 to 15 (R48). -/
def limitsOk (take lapse : Nat) : Bool := decide (5 ≤ take) && decide (take ≤ 2000) && decide (1 ≤ lapse) && decide (lapse ≤ 15)

/-- SET_ARBITER (R48). -/
def cmdSetArbiter : List Byte → State → Executed
  | [modeByte, takeHi, takeLo, lapse], s =>
    inRange s (mode? modeByte) fun mode =>
      if limitsOk (wordOf takeHi takeLo).toNat lapse.toNat then
        answerOk (s.withArbiter { s.arbiter with
          mode, takeLimit := (wordOf takeHi takeLo).toNat, lapseLimit := lapse.toNat }) []
      else refuse s .range
  | _, s => refuse s .badLength

/-- The stack list of READ_ARBITER: 16 bytes, top first, FFh beyond the depth (Table 10-6). -/
def Arbiter.stackBytes (a : Arbiter) : List Byte :=
  (a.stack.map (fun e => number8 e.level) ++ List.replicate 16 absentCode).take 16

/-- A band in READ_ARBITER: bit 7 the rotation flag, bits 0-1 the pointer (Table 10-6). -/
def Band.byte (b : Band) : Byte := flag 7 b.rotation ||| number8 b.pointer

/-- The 36 bytes of READ_ARBITER (Table 10-6). -/
def Arbiter.report (a : Arbiter) : List Byte :=
  [a.state.code, a.mode.code] ++ number16 a.takeLimit ++
  [number8 a.lapseLimit, a.number, indexOrAbsent a.state.offered] ++ word a.pendingSet ++ word a.maskSet ++
  [number8 a.stack.length] ++ a.stackBytes ++ (List.finRange 4).map (fun b => a.bands[b].byte) ++
  [number8 a.consecutiveLapses] ++ word a.totalLapses ++ [indexOrAbsent a.highest]

/-- READ_ARBITER (R49). -/
def cmdReadArbiter : List Byte → State → Executed
  | [], s => answerOk s s.arbiter.report
  | _, s => refuse s .badLength

/-! ## The rows -/

/-- CONFIGURE_LEVEL (R21). -/
def execConfigureLevel (sequence : Byte) (arguments : List Byte) (s : State) : Host.Outcome State Fault Refusal :=
  .next (s.command .configureLevel sequence (cmdConfigureLevel arguments))

/-- CONFIGURE_BAND (R21). -/
def execConfigureBand (sequence : Byte) (arguments : List Byte) (s : State) : Host.Outcome State Fault Refusal :=
  .next (s.command .configureBand sequence (cmdConfigureBand arguments))

/-- SET_MASKS ASSIGN (R22). -/
def execSetMasksAssign (sequence : Byte) (rest : List Byte) (s : State) : Host.Outcome State Fault Refusal :=
  .next (s.command .setMasks sequence (cmdSetMasks (assignOperation :: rest)))

/-- SET_MASKS MASK (R22). -/
def execSetMasksMask (sequence : Byte) (rest : List Byte) (s : State) : Host.Outcome State Fault Refusal :=
  .next (s.command .setMasks sequence (cmdSetMasks (maskOperation :: rest)))

/-- SET_MASKS UNMASK (R22). -/
def execSetMasksUnmask (sequence : Byte) (rest : List Byte) (s : State) : Host.Outcome State Fault Refusal :=
  .next (s.command .setMasks sequence (cmdSetMasks (unmaskOperation :: rest)))

/-- ASSERT_LEVEL (R23). -/
def execAssertLevel (sequence : Byte) (arguments : List Byte) (s : State) : Host.Outcome State Fault Refusal :=
  .next (s.command .assertLevel sequence (cmdAssertLevel arguments))

/-- WITHDRAW_LEVEL (R23). -/
def execWithdrawLevel (sequence : Byte) (arguments : List Byte) (s : State) : Host.Outcome State Fault Refusal :=
  .next (s.command .withdrawLevel sequence (cmdWithdrawLevel arguments))

/-- READ_LEVEL (R23). -/
def execReadLevel (sequence : Byte) (arguments : List Byte) (s : State) : Host.Outcome State Fault Refusal :=
  .next (s.command .readLevel sequence (cmdReadLevel arguments))

/-- SET_ARBITER (R48). -/
def execSetArbiter (sequence : Byte) (arguments : List Byte) (s : State) : Host.Outcome State Fault Refusal :=
  .next (s.command .setArbiter sequence (cmdSetArbiter arguments))

/-- READ_ARBITER (R49). -/
def execReadArbiter (sequence : Byte) (arguments : List Byte) (s : State) : Host.Outcome State Fault Refusal :=
  .next (s.command .readArbiter sequence (cmdReadArbiter arguments))

end Sys2Proof.Machine
end

