-- ==== Sys2Proof/Machine/Resets.lean ====
section
/-! DEFINITION. The five reset kinds (Table 0-4), block by block as each chapter gives them. -/

namespace Sys2Proof.Machine

/-- The arbiter and the level records after ARBITER, TRAFFIC and LINK (Tables 1-7 and 2-7). -/
def Arbiter.resetRecords (a : Arbiter) : Arbiter :=
  { a with
    levels := mapAll (fun l => { l with pending := none }) a.levels
    stack := []
    state := .idle
    consecutiveLapses := 0
    totalLapses := 0 }

/-- The arbiter after CONFIG: as after COLD, but the presentation number is kept (Tables 1-7 and 2-7). -/
def Arbiter.resetConfig (a : Arbiter) : Arbiter := { Arbiter.cold with number := a.number }

/-- The classifier after TRAFFIC and LINK (Table 3-7). -/
def Classifier.resetTraffic (c : Classifier) : Classifier :=
  { c with grant := 0, deferred := Vector.replicate 8 false }

/-- An output after TRAFFIC, LINK, CONFIG and COLD (Table 5-4). -/
def resetOutputs : Vector Output 4 := Vector.replicate 4 Output.cold

/-- What TRAFFIC, LINK and CONFIG do to what a line is doing (R119, R123, R129): an inbound frame is dropped and runs
on, an attempt is cut, and a cut that is younger than 100 µs is still waited for. -/
def Activity.reset : Activity → Activity
  | .none => .none
  | .inbound bits low _ => .inbound bits low true
  | _ => .closing

/-- A line after a reset that leaves these reasons standing (R129). -/
def Line.reset (l : Line) (reasons : Reasons) : Line := ⟨l.activity.reset, reasons, none⟩

/-- A port after TRAFFIC and LINK (Table 7-9): the intake and the transmit queue are emptied uncounted, BACKPRESSURE
and PREEMPT are withdrawn, and the silence timer starts in full if the port is PRESENT. -/
def Port.resetTraffic (pt : Port) : Port :=
  { pt with
    intake := []
    queue := []
    attempts := 0
    line := pt.line.reset { pt.line.reasons with backpressure := false, preempt := false } }.startSilence

/-- A port after CONFIG (Table 7-9): as after COLD, but the line ends what it was doing (R129). -/
def Port.resetConfig (pt : Port) : Port := { Port.cold with line := pt.line.reset Reasons.noReason }

/-- Both lanes flushed (R176): every queued message is removed unsent, and the pending rates with them. -/
def Trunk.flush (t : Trunk) : Trunk :=
  { t with control := [], relays := [], reservations := 0, controlRun := 0, lostAlerts := 0 }

/-- The trunk unit after COLD (Table 8-10, R176, R177): a message in transmission runs on, without a pending rate. -/
def Trunk.resetCold (t : Trunk) : Trunk :=
  { Trunk.cold with sending := t.sending.map fun x => { x with pendingRate := none } }

/-- A reset of scope ARBITER (R24, R50). -/
def State.resetArbiterScope (s : State) : State := s.withArbiter s.arbiter.resetRecords

/-- A reset of scope TRAFFIC: work in flight in every block (R24, R50, R79, R90, R107, R129, R156, R176). -/
def State.resetTrafficScope (s : State) : State :=
  (((((s.withArbiter s.arbiter.resetRecords).withClassifier s.classifier.resetTraffic).withTallies
    (mapAll Tally.clear s.tallies)).withOutputs resetOutputs).withPorts (mapAll Port.resetTraffic s.ports)).withTrunk
    s.trunk.flush

/-- A reset of scope CONFIG: as TRAFFIC, and the configuration and tables as well. -/
def State.resetConfigScope (s : State) : State :=
  ((((((s.withArbiter s.arbiter.resetConfig).withClassifier Classifier.cold).withTallies
    (Vector.replicate 8 Tally.cold)).withPatterns (Vector.replicate 16 none)).withOutputs resetOutputs).withPorts
    (mapAll Port.resetConfig s.ports)).withTrunk s.trunk.flush

/-- A LINK reset: the TRAFFIC effect, and the sequence memory emptied (R165). -/
def State.resetLink (s : State) : State := s.resetTrafficScope.withMemory none

/-- A COLD reset of every block (Table 0-4), at its beginning: RSTN is low. -/
def State.resetCold (s : State) : State :=
  { State.reset with
    trunk := s.trunk.resetCold
    rstnLow := true
    freeReads := s.freeReads
    pending := s.pending }

end Sys2Proof.Machine
end

