-- ==== Sys2Proof/Machine/SignalCommands.lean ====
section
/-! DEFINITION. The commands on tallies (section 4.4) and on signals (chapter 5): what each carries out, and the
meaning of its rows. -/

namespace Sys2Proof.Machine

/-- CONFIGURE_TALLY (R87). A change of the target level alone re-evaluates the arms too, so that an armed arm may be
cleared inside the hysteresis band, where Table 4-2 lets a step after it cross (log 31). -/
def cmdConfigureTally : List Byte → State → Executed
  | [tally, flags, upperHi, upperLo, lowerHi, lowerLo, h, target], s =>
    inRange s (index? 8 tally) fun i =>
    inRange s (tallySettings? flags upperHi upperLo lowerHi lowerLo h target) fun x =>
      let t := { s.tallies[i] with
        upper := x.upper, lower := x.lower, hysteresis := x.hysteresis, target := x.target }.reevaluate
      answerOk (s.onTally i fun _ => t) (signed16 t.value ++ [flag 0 t.upperArm ||| flag 1 t.lowerArm])
  | _, s => refuse s .badLength

/-- The 12 bytes of READ_TALLY (Table 10-4). -/
def Tally.report (t : Tally) : List Byte :=
  signed16 t.value ++ word t.steps ++
  [t.crossings,
    flag 0 t.upper.isSome ||| flag 1 t.lower.isSome ||| flag 2 t.target.isSome ||| flag 3 t.upperArm |||
      flag 4 t.lowerArm] ++
  signed16 (t.upper.getD 0) ++ signed16 (t.lower.getD 0) ++
  [number8 t.hysteresis, number8 ((t.target.map Fin.val).getD 0)]

/-- READ_TALLY (R88). -/
def cmdReadTally : List Byte → State → Executed
  | [tally, option], s =>
    inRange s (index? 8 tally) fun i => inRange s (setting? option) fun clear =>
      answerOk (if clear then s.onTally i Tally.clear else s) s.tallies[i].report
  | _, s => refuse s .badLength

/-- LOAD_PATTERN (R92, R201). -/
def cmdLoadPattern : List Byte → State → Executed
  | [index, markHi, markLo, spaceHi, spaceLo, countHi, countLo, tone, flags, completion], s =>
    inRange s (index? 16 index) fun i =>
    inRange s (pattern? (wordOf markHi markLo) (wordOf spaceHi spaceLo) (wordOf countHi countLo) tone flags completion)
      fun x => answerOk (s.withPatterns (update s.patterns i fun _ => some x)) []
  | _, s => refuse s .badLength

/-- The result data of START_SIGNAL: STARTED or QUEUED, and the index superseded (R97). -/
def Output.startReport (o : Output) : List Byte :=
  match o.running with
  | none => [1, absentCode]
  | some _ => [2, indexOrAbsent (o.waiting.map Snapshot.index)]

/-- START_SIGNAL (R95, R97). -/
def cmdStartSignal : List Byte → State → Executed
  | [output, pattern], s =>
    inRange s (index? 4 output) fun o => inRange s (index? 16 pattern) fun i =>
      match s.patterns[i] with
      | none => refuse s .unloaded
      | some x => answerOk (s.onOutput o fun y => y.start ⟨i, x⟩) s.outputs[o].startReport
  | _, s => refuse s .badLength

/-- The running pattern index of an output. -/
def Output.runningIndex (o : Output) : Option PatternIx := o.running.map fun b => b.copy.index

/-- The waiting pattern index of an output. -/
def Output.waitingIndex (o : Output) : Option PatternIx := o.waiting.map Snapshot.index

/-- STOP_SIGNAL (R104). -/
def cmdStopSignal : List Byte → State → Executed
  | [output], s =>
    inRange s (index? 4 output) fun o =>
      answerOk (s.onOutput o Output.stop)
        [indexOrAbsent s.outputs[o].runningIndex, indexOrAbsent s.outputs[o].waitingIndex]
  | _, s => refuse s .badLength

/-- The output state code (Table 10-3). -/
def Output.stateCode (o : Output) : Byte :=
  match o.running with
  | none => 0
  | some b => if b.phase = .mark then 1 else 2

/-- The result data of READ_SIGNAL (Table 10-4). -/
def Output.report (o : Output) : List Byte :=
  [o.stateCode, indexOrAbsent o.runningIndex] ++ number16 ((o.running.map Burst.remaining).getD 0) ++
  [indexOrAbsent o.waitingIndex] ++ word o.superseded ++ word o.refused

/-- READ_SIGNAL (R105). -/
def cmdReadSignal : List Byte → State → Executed
  | [output], s => inRange s (index? 4 output) fun o => answerOk s s.outputs[o].report
  | _, s => refuse s .badLength

/-! ## The rows -/

/-- CONFIGURE_TALLY (R87). -/
def execConfigureTally (sequence : Byte) (arguments : List Byte) (s : State) : Host.Outcome State Fault Refusal :=
  .next (s.command .configureTally sequence (cmdConfigureTally arguments))

/-- READ_TALLY (R88). -/
def execReadTally (sequence : Byte) (arguments : List Byte) (s : State) : Host.Outcome State Fault Refusal :=
  .next (s.command .readTally sequence (cmdReadTally arguments))

/-- LOAD_PATTERN (R92). -/
def execLoadPattern (sequence : Byte) (arguments : List Byte) (s : State) : Host.Outcome State Fault Refusal :=
  .next (s.command .loadPattern sequence (cmdLoadPattern arguments))

/-- START_SIGNAL (R97). -/
def execStartSignal (sequence : Byte) (arguments : List Byte) (s : State) : Host.Outcome State Fault Refusal :=
  .next (s.command .startSignal sequence (cmdStartSignal arguments))

/-- STOP_SIGNAL (R104). -/
def execStopSignal (sequence : Byte) (arguments : List Byte) (s : State) : Host.Outcome State Fault Refusal :=
  .next (s.command .stopSignal sequence (cmdStopSignal arguments))

/-- READ_SIGNAL (R105). -/
def execReadSignal (sequence : Byte) (arguments : List Byte) (s : State) : Host.Outcome State Fault Refusal :=
  .next (s.command .readSignal sequence (cmdReadSignal arguments))

end Sys2Proof.Machine
end

