-- ==== Sys2Proof/Machine/GeneralCommands.lean ====
section
/-! DEFINITION. The general commands (sections 9.4 and 9.5) and the command table: what each carries out, and the
meaning of its rows, with COMMAND_UNKNOWN. -/

namespace Sys2Proof.Machine

/-- The 11 bytes of IDENTIFY: part code 5C08h, revision 01h, and the capacities of Table 9-5. -/
def identity : List Byte := [0x5C, 0x08, 0x01, 8, 16, 48, 8, 4, 16, 16, 24]

/-- IDENTIFY (R186). -/
def cmdIdentify : List Byte → State → Executed
  | [], s => answerOk s identity
  | _, s => refuse s .badLength

/-- The presence states, two bits per port, port 7 in the top two (Table 10-5). -/
def presenceWord (ports : Vector Port 8) : Word :=
  BitVec.ofFnLE fun i : Fin 16 => ports[i.val / 2].presence.code.getLsbD (i.val % 2)

/-- The 21 bytes of GET_STATUS (Table 10-5). -/
def State.report (s : State) : List Byte :=
  word s.timer ++ [s.arbiter.state.code] ++ word (presenceWord s.ports) ++
  [number8 s.trunk.control.length, number8 s.trunk.reservations, number8 s.trunk.relays.length, s.trunk.lostAlerts] ++
  word s.trunk.checkErrors ++ word s.trunk.gapAborts ++ word s.trunk.lengthErrors ++ word s.trunk.overruns ++
  [s.trunk.rate.code, s.classifier.active.code] ++ word s.classifier.generation

/-- The trunk counters cleared (R174, R188). -/
def Trunk.clearCounters (t : Trunk) : Trunk :=
  { t with checkErrors := 0, gapAborts := 0, lengthErrors := 0, overruns := 0 }

/-- GET_STATUS (R188). -/
def cmdGetStatus : List Byte → State → Executed
  | [option], s =>
    inRange s (setting? option) fun clear =>
      answerOk (if clear then s.withTrunk s.trunk.clearCounters else s) s.report
  | _, s => refuse s .badLength

/-- SET_LINK (R189): the rate is attached to the REPLY. -/
def cmdSetLink : List Byte → State → Executed
  | [rate], s => inRange s (rate? rate) fun r => ⟨s, .ok, [rate], some r⟩
  | _, s => refuse s .badLength

/-- The reset that a scope names; `none` for another value. -/
def resetOf (scope : Byte) : Option (State → State) :=
  if scope = arbiterScope then some State.resetArbiterScope
  else if scope = trafficScope then some State.resetTrafficScope
  else if scope = configScope then some State.resetConfigScope
  else none

/-- RESET (R190): the reset first, and the REPLY on the reset state. -/
def cmdReset : List Byte → State → Executed
  | [scope], s => inRange s (resetOf scope) fun f => answerOk (f s) [scope]
  | _, s => refuse s .badLength

/-- What a command carries out (Table 9-4). -/
def runCommand (c : Command) (arguments : List Byte) (s : State) : Executed :=
  match c with
  | .identify => cmdIdentify arguments s
  | .getStatus => cmdGetStatus arguments s
  | .setLink => cmdSetLink arguments s
  | .reset => cmdReset arguments s
  | .configureLevel => cmdConfigureLevel arguments s
  | .configureBand => cmdConfigureBand arguments s
  | .setMasks => cmdSetMasks arguments s
  | .assertLevel => cmdAssertLevel arguments s
  | .withdrawLevel => cmdWithdrawLevel arguments s
  | .readLevel => cmdReadLevel arguments s
  | .setArbiter => cmdSetArbiter arguments s
  | .readArbiter => cmdReadArbiter arguments s
  | .loadSelector => cmdLoadSelector arguments s
  | .clearShadow => cmdClearShadow arguments s
  | .copyActive => cmdCopyActive arguments s
  | .commitSelectors => cmdCommitSelectors arguments s
  | .readSelector => cmdReadSelector arguments s
  | .configureTally => cmdConfigureTally arguments s
  | .readTally => cmdReadTally arguments s
  | .loadPattern => cmdLoadPattern arguments s
  | .startSignal => cmdStartSignal arguments s
  | .stopSignal => cmdStopSignal arguments s
  | .readSignal => cmdReadSignal arguments s
  | .configurePort => cmdConfigurePort arguments s
  | .portControl => cmdPortControl arguments s
  | .readPort => cmdReadPort arguments s

/-- A COMMAND with this code and these arguments is executed (R185): a code that names no command gives UNKNOWN. -/
def cmdAny (code : Byte) (arguments : List Byte) (s : State) : Executed :=
  match commandOf code with
  | none => refuse s .unknown
  | some c => runCommand c arguments s

/-! ## The rows -/

/-- COMMAND_UNKNOWN (R185): a COMMAND that no other row names. -/
def execCommandUnknown (sequence code : Byte) (arguments : List Byte) (s : State) :
    Host.Outcome State Fault Refusal :=
  .next (s.onMessage fun t => t.sequenced sequence code false (cmdAny code arguments))

/-- IDENTIFY (R186). -/
def execIdentify (sequence : Byte) (arguments : List Byte) (s : State) : Host.Outcome State Fault Refusal :=
  .next (s.command .identify sequence (cmdIdentify arguments))

/-- GET_STATUS (R188). -/
def execGetStatus (sequence : Byte) (arguments : List Byte) (s : State) : Host.Outcome State Fault Refusal :=
  .next (s.command .getStatus sequence (cmdGetStatus arguments))

/-- SET_LINK (R189). -/
def execSetLink (sequence : Byte) (arguments : List Byte) (s : State) : Host.Outcome State Fault Refusal :=
  .next (s.command .setLink sequence (cmdSetLink arguments))

/-- RESET of scope ARBITER (R190). -/
def execResetArbiter (sequence : Byte) (rest : List Byte) (s : State) : Host.Outcome State Fault Refusal :=
  .next (s.command .reset sequence (cmdReset (arbiterScope :: rest)))

/-- RESET of scope TRAFFIC (R190). -/
def execResetTraffic (sequence : Byte) (rest : List Byte) (s : State) : Host.Outcome State Fault Refusal :=
  .next (s.command .reset sequence (cmdReset (trafficScope :: rest)))

/-- RESET of scope CONFIG (R190). -/
def execResetConfig (sequence : Byte) (rest : List Byte) (s : State) : Host.Outcome State Fault Refusal :=
  .next (s.command .reset sequence (cmdReset (configScope :: rest)))

end Sys2Proof.Machine
end

