-- ==== Sys2Proof/Machine/TrunkEvents.lean ====
section
/-! DEFINITION. The trunk unit's events (chapter 8): characters and messages in, the break, the transmitter, the two
rows of a COLD reset, and the part timer. -/

namespace Sys2Proof.Machine

/-! ## Receiving (R157, R160 to R164) -/

/-- The stop bit of a character has been sampled: after a framing error the receiver waits for mark (R157). -/
def State.sampleStop (s : State) (framingError : Bool) : State :=
  s.withTrunk { s.trunk with awaitsMark := framingError }

/-- The receiver returns to HUNT, with one more length error (R161). -/
def State.countLengthError (s : State) : State :=
  s.withTrunk { s.trunk with receiver := .hunt, lengthErrors := satInc s.trunk.lengthErrors }

/-- The receiver returns to HUNT, with one more gap abort (R162). -/
def State.countGapAbort (s : State) : State :=
  s.withTrunk { s.trunk with receiver := .hunt, gapAborts := satInc s.trunk.gapAborts }

/-- The receiver returns to HUNT, with one more check error (R163). -/
def State.countCheckError (s : State) : State :=
  s.withTrunk { s.trunk with receiver := .hunt, checkErrors := satInc s.trunk.checkErrors }

/-- A malformed message draws its ALERT (R164, Table 8-7). -/
def State.alertMalformed (s : State) (m : TrunkMessage) : State :=
  s.alert (.malformed m.type m.sequence (number8 m.payload.length))

/-- A COMMAND message is handed to the request unit (R164, R185). -/
def State.handCommand (s : State) (m : TrunkMessage) : State :=
  match m.payload with
  | code :: arguments => s.sequenced m.sequence code false (cmdAny code arguments)
  | [] => s.alertMalformed m

/-- The form check and the hand-over of a valid message (R164, R194, R196). -/
def State.dispatch (s : State) (m : TrunkMessage) : State :=
  if m.type = takeType then
    match m.payload with
    | [number] => s.take number
    | _ => s.alertMalformed m
  else if m.type = doneType then
    match m.payload with
    | [value] => s.done value
    | _ => s.alertMalformed m
  else if m.type = recallType then
    match m.payload with
    | [value] => s.recall value
    | _ => s.alertMalformed m
  else if m.type = sendType then
    match m.payload with
    | [port, tag, data, confirm] => s.sequenced m.sequence 0 true (cmdSend m.sequence port tag data confirm)
    | _ => s.alertMalformed m
  else if m.type = commandType ∧ m.payload.length ≤ 40 then s.handCommand m
  else s.alertMalformed m

/-- The check bytes at the end of a collected message match its other bytes (R159, R163). -/
def checkMatches (bytes : List Byte) : Bool :=
  word (crc (bytes.take (bytes.length - 2))) == bytes.drop (bytes.length - 2)

/-- A message has been collected up to its second Check byte and is judged (R163). -/
def State.judge (s : State) (bytes : List Byte) (damaged : Bool) : State :=
  if damaged then s.countCheckError
  else if checkMatches bytes then
    match bytes with
    | _ :: type :: sequence :: rest => s.onMessage fun t => t.dispatch ⟨type, sequence, rest.take (rest.length - 2)⟩
    | _ => s.countCheckError
  else s.countCheckError

/-- A character of a message completes in BODY (R161). -/
def State.collectByte (s : State) (collected : List Byte) (damaged : Bool) (value : Byte) : State :=
  match collected with
  | [] =>
    if value.toNat < 2 ∨ 42 < value.toNat then s.countLengthError
    else s.withTrunk { s.trunk with receiver := .body [value] damaged }
  | length :: _ =>
    if collected.length + 1 < length.toNat + 3 then
      s.withTrunk { s.trunk with receiver := .body (collected ++ [value]) damaged }
    else s.judge (collected ++ [value]) damaged

/-- A character that has completed on TRX outside BREAK (R160, R161). -/
def State.takeCharacter (s : State) (value : Byte) (framingError : Bool) : State :=
  match s.trunk.receiver with
  | .hunt =>
    if value = marker ∧ framingError = false then s.withTrunk { s.trunk with receiver := .body [] false } else s
  | .body collected damaged => s.collectByte collected (damaged || framingError) value
  | .inBreak => s

/-- A character completes on TRX (R157, R160, R161). In BREAK the receiver takes none (R165). -/
def State.receiveCharacter (s : State) (value : Byte) (framingError : Bool) : State :=
  if s.trunk.receiver = .inBreak then s else (s.sampleStop framingError).takeCharacter value framingError

/-! ## Transmitting (R158, R166 to R168, R171) -/

/-- The transmission of a message that begins now (R166, R167, R194). -/
def Trunk.transmission (t : Trunk) (m : Upstream) (pendingRate : Option LinkRate) : Transmission where
  message := m
  sequence := t.sequence
  rate := t.rate
  pendingRate := pendingRate
  characters := TrunkMessage.characters ⟨m.type, t.sequence, m.payload⟩

/-- The head of the control lane begins (R167, R168, R169). If the lane was full, an offer that waited for room is made
in the same step (R27, R169, log 17). -/
def State.beginControl (s : State) (e : ControlEntry) (rest : List ControlEntry) : State :=
  let begun := s.withTrunk { s.trunk with
    control := rest
    sending := some (s.trunk.transmission (.control e.message) e.pendingRate)
    sequence := s.trunk.sequence + 1
    controlRun := if s.trunk.relays.isEmpty then 0 else s.trunk.controlRun + 1 }
  if s.trunk.room then begun else begun.makeOffer

/-- The head of the relay lane begins (R167, R168, R171). That the lane is no longer full is what makes deferred ports
grantable (R59, log 18). -/
def State.beginRelay (s : State) (r : Relay) (rest : List Relay) : State :=
  s.withTrunk { s.trunk with
    relays := rest
    sending := some (s.trunk.transmission (.relay r) none)
    sequence := s.trunk.sequence + 1
    controlRun := 0 }

/-- The idle transmitter begins the head message of the lane that the starvation guard chooses (R166, R168). -/
def State.beginTransmission (s : State) : State :=
  match s.trunk.sending, s.trunk.control, s.trunk.relays with
  | none, e :: rest, [] => s.beginControl e rest
  | none, [], r :: rest => s.beginRelay r rest
  | none, e :: rest, r :: others =>
    if s.trunk.controlRun < Config.controlRunLimit then s.beginControl e rest else s.beginRelay r others
  | _, _, _ => s

/-- The arbiter learns that a NOTICE has been sent (R30). -/
def Arbiter.noticeSent (a : Arbiter) (number : Byte) : Arbiter :=
  match a.state with
  | .presenting l => if a.number = number then { a with state := .awaiting l a.takeLimit } else a
  | _ => a

/-- The report that the end of a message makes to the arbiter (Table 8-5). -/
def Arbiter.messageSent (a : Arbiter) : Upstream → Arbiter
  | .control (.notice number _ _ _) => a.noticeSent number
  | _ => a

/-- The last byte of the message in transmission has been sent (R158, R166). -/
def State.endTransmission (s : State) : State :=
  match s.trunk.sending with
  | none => s
  | some x =>
    (s.withTrunk { s.trunk with sending := none, rate := x.pendingRate.getD s.trunk.rate }).withArbiter
      (s.arbiter.messageSent x.message)

/-! ## Break (R165) -/

/-- A break is detected: a LINK reset, and the receiver waits in BREAK. -/
def State.detectBreak (s : State) : State :=
  s.resetLink.withTrunk { s.resetLink.trunk with receiver := .inBreak }

/-- TRX returns to mark after a break (R157, R165, R173). -/
def State.endBreak (s : State) : State :=
  (s.withTrunk { s.trunk with receiver := .hunt, awaitsMark := false }).alert (.started .linkBreak s.trunk.rate)

/-! ## The end of a COLD reset (R173, R177) -/

/-- RSTN is released: the receiver hunts, the part timer starts from 0, and ALERT STARTED is queued. -/
def State.release (s : State) : State :=
  (((s.withTrunk { s.trunk with receiver := .hunt }).withTimer 0).withRstnLow false).alert
    (.started .cold s.trunk.rate)

/-! ## The rows -/

/-- COLD_RESET (R177): the reset begins; RSTN_RELEASED ends it (log 7). -/
def execColdReset (s : State) : Host.Outcome State Fault Refusal := .next s.resetCold

/-- RSTN_RELEASED (R177). -/
def execRstnReleased (s : State) : Host.Outcome State Fault Refusal := .next (if s.rstnLow then s.release else s)

/-- BREAK_DETECTED (R165). In BREAK a further space adds nothing. -/
def execBreakDetected (s : State) : Host.Outcome State Fault Refusal :=
  .next (if s.receives then s.detectBreak else s)

/-- BREAK_END (R165). -/
def execBreakEnd (s : State) : Host.Outcome State Fault Refusal :=
  .next (s.whileRunning fun t => if t.trunk.receiver = .inBreak then t.endBreak else t)

/-- LENGTH_ERROR (R161). The row stands for a Length byte whose stop bit is at mark (log 30). -/
def execLengthError (s : State) : Host.Outcome State Fault Refusal :=
  .next (if s.receives then (s.sampleStop false).countLengthError else s)

/-- GAP_ABORT (R162). The gap limit applies in BODY only. -/
def execGapAbort (s : State) : Host.Outcome State Fault Refusal :=
  .next (s.whileRunning fun t =>
    match t.trunk.receiver with
    | .body _ _ => t.countGapAbort
    | _ => t)

/-- CHECK_ERROR (R163). The row stands for a message whose last stop bit is at mark (log 30). -/
def execCheckError (s : State) : Host.Outcome State Fault Refusal :=
  .next (if s.receives then (s.sampleStop false).countCheckError else s)

/-- MALFORMED (R164). -/
def execMalformed (type sequence : Byte) (payload : List Byte) (s : State) : Host.Outcome State Fault Refusal :=
  .next (s.onMessage fun t => t.dispatch ⟨type, sequence, payload⟩)

/-- CHARACTER_COMPLETE (R157, R160, R161, R163). -/
def execCharacterComplete (value : Byte) (framingError : Bool) (s : State) : Host.Outcome State Fault Refusal :=
  .next (s.whileRunning fun t => t.receiveCharacter value framingError)

/-- TRANSMIT_BEGIN (R166). While RSTN is low nothing begins (R177). -/
def execTransmitBegin (s : State) : Host.Outcome State Fault Refusal := .next (s.whileRunning State.beginTransmission)

/-- TRANSMIT_END (R166). A message in transmission is sent to its end even while RSTN is low (R177). -/
def execTransmitEnd (s : State) : Host.Outcome State Fault Refusal := .next s.endTransmission

/-- PART_TIMER_TICK (R187). The timer is 0 while RSTN is low. -/
def execPartTimerTick (s : State) : Host.Outcome State Fault Refusal :=
  .next (s.whileRunning fun t => t.withTimer (t.timer + 1))

end Sys2Proof.Machine
end

