-- ==== Sys2Proof/Machine/Dispatch.lean ====
section
/-! DEFINITION. exec: the effect of every command on everything but the queue. -/

namespace Sys2Proof.Machine

def exec (i : Instr) (s : State) : Host.Outcome State Fault Refusal :=
  match i with
  | .coldReset => Sys2Proof.Machine.execColdReset s
  | .breakDetected => Sys2Proof.Machine.execBreakDetected s
  | .breakEnd => Sys2Proof.Machine.execBreakEnd s
  | .lengthError => Sys2Proof.Machine.execLengthError s
  | .gapAbort => Sys2Proof.Machine.execGapAbort s
  | .checkError => Sys2Proof.Machine.execCheckError s
  | .malformed type sequence payload => Sys2Proof.Machine.execMalformed type sequence payload s
  | .take number => Sys2Proof.Machine.execTake number s
  | .done value => Sys2Proof.Machine.execDone value s
  | .doneCurrent => Sys2Proof.Machine.execDoneCurrent s
  | .recall value => Sys2Proof.Machine.execRecall value s
  | .send sequence port tag data confirm => Sys2Proof.Machine.execSend sequence port tag data confirm s
  | .commandUnknown sequence code arguments => Sys2Proof.Machine.execCommandUnknown sequence code arguments s
  | .identify sequence arguments => Sys2Proof.Machine.execIdentify sequence arguments s
  | .getStatus sequence arguments => Sys2Proof.Machine.execGetStatus sequence arguments s
  | .setLink sequence arguments => Sys2Proof.Machine.execSetLink sequence arguments s
  | .resetArbiter sequence rest => Sys2Proof.Machine.execResetArbiter sequence rest s
  | .resetTraffic sequence rest => Sys2Proof.Machine.execResetTraffic sequence rest s
  | .resetConfig sequence rest => Sys2Proof.Machine.execResetConfig sequence rest s
  | .configureLevel sequence arguments => Sys2Proof.Machine.execConfigureLevel sequence arguments s
  | .configureBand sequence arguments => Sys2Proof.Machine.execConfigureBand sequence arguments s
  | .setMasksAssign sequence rest => Sys2Proof.Machine.execSetMasksAssign sequence rest s
  | .setMasksMask sequence rest => Sys2Proof.Machine.execSetMasksMask sequence rest s
  | .setMasksUnmask sequence rest => Sys2Proof.Machine.execSetMasksUnmask sequence rest s
  | .assertLevel sequence arguments => Sys2Proof.Machine.execAssertLevel sequence arguments s
  | .withdrawLevel sequence arguments => Sys2Proof.Machine.execWithdrawLevel sequence arguments s
  | .readLevel sequence arguments => Sys2Proof.Machine.execReadLevel sequence arguments s
  | .setArbiter sequence arguments => Sys2Proof.Machine.execSetArbiter sequence arguments s
  | .readArbiter sequence arguments => Sys2Proof.Machine.execReadArbiter sequence arguments s
  | .loadSelector sequence arguments => Sys2Proof.Machine.execLoadSelector sequence arguments s
  | .clearShadow sequence arguments => Sys2Proof.Machine.execClearShadow sequence arguments s
  | .copyActive sequence arguments => Sys2Proof.Machine.execCopyActive sequence arguments s
  | .commitSelectors sequence arguments => Sys2Proof.Machine.execCommitSelectors sequence arguments s
  | .readSelector sequence arguments => Sys2Proof.Machine.execReadSelector sequence arguments s
  | .configureTally sequence arguments => Sys2Proof.Machine.execConfigureTally sequence arguments s
  | .readTally sequence arguments => Sys2Proof.Machine.execReadTally sequence arguments s
  | .loadPattern sequence arguments => Sys2Proof.Machine.execLoadPattern sequence arguments s
  | .startSignal sequence arguments => Sys2Proof.Machine.execStartSignal sequence arguments s
  | .stopSignal sequence arguments => Sys2Proof.Machine.execStopSignal sequence arguments s
  | .readSignal sequence arguments => Sys2Proof.Machine.execReadSignal sequence arguments s
  | .configurePort sequence arguments => Sys2Proof.Machine.execConfigurePort sequence arguments s
  | .portControlEnable sequence port rest => Sys2Proof.Machine.execPortControlEnable sequence port rest s
  | .portControlDisable sequence port rest => Sys2Proof.Machine.execPortControlDisable sequence port rest s
  | .portControlProbeNow sequence port rest => Sys2Proof.Machine.execPortControlProbeNow sequence port rest s
  | .portControlFlushTx sequence port rest => Sys2Proof.Machine.execPortControlFlushTx sequence port rest s
  | .readPort sequence arguments => Sys2Proof.Machine.execReadPort sequence arguments s
  | .offer => Sys2Proof.Machine.execOffer s
  | .takeTimerExpiry => Sys2Proof.Machine.execTakeTimerExpiry s
  | .classify => Sys2Proof.Machine.execClassify s
  | .phaseEnd output => Sys2Proof.Machine.execPhaseEnd output s
  | .inboundFrame port => Sys2Proof.Machine.execInboundFrame port s
  | .frameBroken port => Sys2Proof.Machine.execFrameBroken port s
  | .probeTimerExpiry port => Sys2Proof.Machine.execProbeTimerExpiry port s
  | .probe port clkHigh dataHigh => Sys2Proof.Machine.execProbe port clkHigh dataHigh s
  | .requestToSend port clkHigh dataHigh => Sys2Proof.Machine.execRequestToSend port clkHigh dataHigh s
  | .startBit port => Sys2Proof.Machine.execStartBit port s
  | .attemptOutcome port => Sys2Proof.Machine.execAttemptOutcome port s
  | .noResponse port => Sys2Proof.Machine.execNoResponse port s
  | .cutEnd port => Sys2Proof.Machine.execCutEnd port s
  | .silenceExpiry port => Sys2Proof.Machine.execSilenceExpiry port s
  | .transmitBegin => Sys2Proof.Machine.execTransmitBegin s
  | .transmitEnd => Sys2Proof.Machine.execTransmitEnd s
  | .inboundFrameBegins port => Sys2Proof.Machine.execInboundFrameBegins port s
  | .clockGiven port edge dataHigh => Sys2Proof.Machine.execClockGiven port edge dataHigh s
  | .characterComplete value framingError => Sys2Proof.Machine.execCharacterComplete value framingError s
  | .partTimerTick => Sys2Proof.Machine.execPartTimerTick s
  | .rstnReleased => Sys2Proof.Machine.execRstnReleased s

end Sys2Proof.Machine
end

