-- ==== Sys2Proof/Machine/Characters.lean ====
section
/-! DEFINITION. Characters on the trunk wires, one level per bit time, `true` for mark (R157): what TTX carries, and which
CHARACTER_COMPLETE rows the levels of TRX give. -/

namespace Sys2Proof.Machine

/-- The ten bit times of a character: a start bit at space, the data bits least significant first, a stop bit at mark
(R157). -/
def characterLevels (value : Byte) : List Bool := false :: ((List.range 8).map value.getLsbD ++ [true])

/-- The levels of a message on TTX: its characters back to back, with no idle time between them (R157). -/
def Transmission.levels (x : Transmission) : List Bool := x.characters.flatMap characterLevels

/-- The level of TTX in the bit time `n` of a transmission, counted from its beginning; TTX idles at mark between
messages (R157). -/
def Trunk.ttx (t : Trunk) (n : Nat) : Bool :=
  match t.sending with
  | some x => (x.levels[n]?).getD true
  | none => true

/-- What the receiver does with the level of a bit time: it waits for mark after a framing error, looks for a start bit,
or has collected these data bits of a character (R157). -/
inductive Sampler where
  | waiting
  | looking
  | collecting (bits : List Bool)
deriving DecidableEq, Repr

/-- The byte of eight data bits, the first one least significant (R157). -/
def byteOfBits (bits : List Bool) : Byte := BitVec.ofFnLE fun i : Fin 8 => (bits[i.val]?).getD false

/-- The characters that these levels complete, each with its framing error (R157). A character is complete at its stop
bit, and after a stop bit at space no start bit is looked for before TRX has been at mark again. -/
def charactersOn : Sampler → List Bool → List (Byte × Bool)
  | _, [] => []
  | .waiting, level :: rest => charactersOn (if level then .looking else .waiting) rest
  | .looking, level :: rest => charactersOn (if level then .looking else .collecting []) rest
  | .collecting bits, level :: rest =>
    if bits.length < 8 then charactersOn (.collecting (bits ++ [level])) rest
    else (byteOfBits bits, !level) :: charactersOn (if level then .looking else .waiting) rest

/-- The rows that these levels of TRX give to a receiver between two characters (R157). -/
def Trunk.characterRows (t : Trunk) (levels : List Bool) : List Instr :=
  (charactersOn (if t.awaitsMark then .waiting else .looking) levels).map fun c => .characterComplete c.1 c.2

end Sys2Proof.Machine
end

