-- ==== Sys2Proof/Safety.lean ====
section
/-! DEFINITION. The terms in which claims about the part are made: when it takes a message, what it looks like once it
has taken or answered one, the arguments that a command accepts, runs of commands, and the invariants of its blocks. -/

namespace Sys2Proof

/-- The rows that are sequenced requests, with the Sequence they carry (R178). -/
def Instr.requestSequence : Instr → Option Byte
  | .send sequence _ _ _ _ => some sequence
  | .commandUnknown sequence _ _ => some sequence
  | .identify sequence _ | .getStatus sequence _ | .setLink sequence _ | .resetArbiter sequence _
  | .resetTraffic sequence _ | .resetConfig sequence _ | .configureLevel sequence _ | .configureBand sequence _
  | .setMasksAssign sequence _ | .setMasksMask sequence _ | .setMasksUnmask sequence _ | .assertLevel sequence _
  | .withdrawLevel sequence _ | .readLevel sequence _ | .setArbiter sequence _ | .readArbiter sequence _
  | .loadSelector sequence _ | .clearShadow sequence _ | .copyActive sequence _ | .commitSelectors sequence _
  | .readSelector sequence _ | .configureTally sequence _ | .readTally sequence _ | .loadPattern sequence _
  | .startSignal sequence _ | .stopSignal sequence _ | .readSignal sequence _ | .configurePort sequence _
  | .readPort sequence _ => some sequence
  | .portControlEnable sequence _ _ | .portControlDisable sequence _ _ | .portControlProbeNow sequence _ _
  | .portControlFlushTx sequence _ _ => some sequence
  | .coldReset | .breakDetected | .breakEnd | .lengthError | .gapAbort | .checkError | .malformed _ _ _ | .take _
  | .done _ | .doneCurrent | .recall _ | .offer | .takeTimerExpiry | .classify | .phaseEnd _ | .inboundFrame _
  | .frameBroken _ | .probeTimerExpiry _ | .probe _ _ _ | .requestToSend _ _ _ | .startBit _ | .attemptOutcome _
  | .noResponse _ | .cutEnd _ | .silenceExpiry _ | .transmitBegin | .transmitEnd | .inboundFrameBegins _
  | .clockGiven _ _ _ | .characterComplete _ _ | .partTimerTick | .rstnReleased => none

end Sys2Proof

namespace Sys2Proof.Machine

/-! ## Messages and requests -/

/-- The part takes messages: RSTN is not low (R177) and no break is in progress (R165). -/
abbrev State.Hears (s : State) : Prop := s.rstnLow = false ∧ s.trunk.receiver ≠ .inBreak

/-- The part once a valid message has been reported and before its owner acts: the receiver is in HUNT (R163) and waits
for no mark (R157), and an arbiter found in QUIESCENT is in IDLE with a consecutive lapse count of 0 (R41). -/
def State.heard (s : State) : State :=
  { s with
    trunk := { s.trunk with receiver := .hunt, awaitsMark := false }
    arbiter :=
      if s.arbiter.state = .quiescent then { s.arbiter with state := .idle, consecutiveLapses := 0 } else s.arbiter }

/-- A free unreserved entry exists on the control lane (R169). -/
abbrev State.HasRoom (s : State) : Prop := s.trunk.control.length + s.trunk.reservations < 16

/-- The sequence memory holds this Sequence (R178). -/
abbrev State.Remembers (s : State) (sequence : Byte) : Prop := s.memory.map Remembered.sequence = some sequence

/-- A sequenced request with this Sequence is executed (Table 9-1). -/
abbrev State.Admits (s : State) (sequence : Byte) : Prop := s.Hears ∧ s.HasRoom ∧ ¬ s.Remembers sequence

/-- The state with one message more at the tail of the control lane. -/
def State.queued (s : State) (m : ControlMessage) : State :=
  { s with trunk := { s.trunk with control := s.trunk.control ++ [⟨m, none⟩] } }

/-- The state once the REPLY to a COMMAND has been stored and queued (R178, step 4). -/
def State.replied (s : State) (sequence code : Byte) (status : Status) (data : List Byte) : State :=
  { s.queued (.reply ⟨sequence, code, false, status, false, data⟩) with
    memory := some ⟨sequence, ⟨sequence, code, false, status, false, data⟩⟩ }

/-- The state once the REPLY to a SEND has been stored and queued (R183, R184). -/
def State.repliedToSend (s : State) (sequence : Byte) (status : Status) (data : List Byte) : State :=
  { s.queued (.reply ⟨sequence, 0, true, status, false, data⟩) with
    memory := some ⟨sequence, ⟨sequence, 0, true, status, false, data⟩⟩ }

/-- The state with one overrun more (R174). -/
def State.overran (s : State) : State := { s with trunk := { s.trunk with overruns := satInc s.trunk.overruns } }

/-- The state once an ALERT has been raised: queued where there is room, else counted as lost (R172). -/
def State.alerted (s : State) (content : AlertContent) : State :=
  if s.trunk.control.length + s.trunk.reservations < 16 then
    { s with trunk := { s.trunk with
        control := s.trunk.control ++ [⟨.alert s.trunk.lostAlerts content, none⟩], lostAlerts := 0 } }
  else { s with trunk := { s.trunk with lostAlerts := satInc s.trunk.lostAlerts } }

/-- A byte for a setting: 0 or 1 (Table 10-7). -/
def settingByte (b : Bool) : Byte := if b then 1 else 0

/-- A byte for an index. -/
def indexByte {n : Nat} (i : Fin n) : Byte := BitVec.ofNat 8 i.val

/-- A byte for an optional index: FFh when absent (R195). -/
def optionalByte {n : Nat} : Option (Fin n) → Byte
  | some i => BitVec.ofNat 8 i.val
  | none => 0xFF

/-! ## The arguments of the commands (Tables 10-4, 10-7, 10-8, 10-9) -/

/-- The argument length of a command (Table 10-4). -/
def Command.argumentLength : Command → Nat
  | .identify => 0 | .getStatus => 1 | .setLink => 1 | .reset => 1
  | .configureLevel => 3 | .configureBand => 3 | .setMasks => 3
  | .assertLevel => 2 | .withdrawLevel => 1 | .readLevel => 1
  | .setArbiter => 4 | .readArbiter => 0
  | .loadSelector => 8 | .clearShadow => 0 | .copyActive => 0 | .commitSelectors => 0 | .readSelector => 3
  | .configureTally => 8 | .readTally => 2
  | .loadPattern => 10 | .startSignal => 2 | .stopSignal => 1 | .readSignal => 1
  | .configurePort => 6 | .portControl => 2 | .readPort => 2

/-- A level or an index below `n`, or FFh for absent (R195). -/
def absentOrBelow (n : Nat) (b : Byte) : Bool := b == 0xFF || decide (b.toNat < n)

/-- The two argument bytes of an action with this code lie in their ranges (Table 3-3, Table 10-8). -/
def actionInRange (code first second : Nat) : Bool :=
  match code with
  | 0 => true
  | 1 => decide (first < 16)
  | 2 => decide (first < 16)
  | 3 => true
  | 4 => decide (first < 8) && second != 0 && second != 128
  | 5 => decide (first < 4) && decide (second < 16)
  | 6 => decide (first ≤ 6)
  | _ => false

/-- The seven entry bytes of a LOAD_SELECTOR are in range (R72, R200). -/
def entryInRange (b0 ports tag low high first second : Byte) : Bool :=
  decide (b0.toNat < 128) ||
    (decide (b0.toNat / 8 % 8 = 0) && ports != 0 && (tag == 0xFF || decide (tag.toNat ≤ 6)) &&
      decide (low.toNat ≤ high.toNat) && actionInRange (b0.toNat % 8) first.toNat second.toNat)

/-- The arguments of a command, of the right length, lie in their ranges (R195 and the rule of each command). -/
def Command.inRange : Command → List Byte → Bool
  | .getStatus, [option] => decide (option.toNat ≤ 1)
  | .setLink, [rate] => decide (rate.toNat ≤ 7)
  | .reset, [scope] => decide (1 ≤ scope.toNat) && decide (scope.toNat ≤ 3)
  | .configureLevel, [level, mask, auto] =>
    decide (level.toNat ≤ 15) && decide (mask.toNat ≤ 1) && decide (auto.toNat ≤ 1)
  | .configureBand, [band, rotation, pointer] =>
    decide (band.toNat ≤ 3) && decide (rotation.toNat ≤ 1) && decide (pointer.toNat ≤ 3)
  | .setMasks, [operation, _, _] => decide (1 ≤ operation.toNat) && decide (operation.toNat ≤ 3)
  | .assertLevel, [level, _] => decide (level.toNat ≤ 15)
  | .withdrawLevel, [level] => decide (level.toNat ≤ 15)
  | .readLevel, [level] => decide (level.toNat ≤ 15)
  | .setArbiter, [mode, hi, lo, lapse] =>
    decide (mode.toNat ≤ 2) && decide (5 ≤ hi.toNat * 256 + lo.toNat) && decide (hi.toNat * 256 + lo.toNat ≤ 2000) &&
      decide (1 ≤ lapse.toNat) && decide (lapse.toNat ≤ 15)
  | .loadSelector, [index, b0, ports, tag, low, high, first, second] =>
    decide (index.toNat ≤ 47) && entryInRange b0 ports tag low high first second
  | .readSelector, [bank, index, option] =>
    decide (bank.toNat ≤ 1) && decide (index.toNat ≤ 47) && decide (option.toNat ≤ 1)
  | .configureTally, [tally, flags, upperHi, upperLo, lowerHi, lowerLo, h, target] =>
    decide (tally.toNat ≤ 7) && decide (flags.toNat ≤ 7) && decide (1 ≤ h.toNat) &&
      (!flags.getLsbD 2 || decide (target.toNat ≤ 15)) &&
      (!flags.getLsbD 0 || !flags.getLsbD 1 ||
        decide ((wordOf lowerHi lowerLo).toInt < (wordOf upperHi upperLo).toInt))
  | .readTally, [tally, option] => decide (tally.toNat ≤ 7) && decide (option.toNat ≤ 1)
  | .loadPattern, [index, markHi, markLo, spaceHi, spaceLo, countHi, countLo, tone, flags, completion] =>
    decide (index.toNat ≤ 15) && decide (1 ≤ markHi.toNat * 256 + markLo.toNat) &&
      decide (countHi.toNat * 256 + countLo.toNat ≤ 1000) && decide (tone.toNat ≤ 3) && decide (flags.toNat ≤ 1) &&
      absentOrBelow 16 completion && (flags == 1 || decide (1 ≤ spaceHi.toNat * 256 + spaceLo.toNat)) &&
      (flags == 0 || decide (1 ≤ countHi.toNat * 256 + countLo.toNat))
  | .startSignal, [output, pattern] => decide (output.toNat ≤ 3) && decide (pattern.toNat ≤ 15)
  | .stopSignal, [output] => decide (output.toNat ≤ 3)
  | .readSignal, [output] => decide (output.toNat ≤ 3)
  | .configurePort, [port, settings, limitHi, limitLo, presence, fault] =>
    decide (port.toNat ≤ 7) && decide (settings.toNat ≤ 7) &&
      (decide (limitHi.toNat * 256 + limitLo.toNat = 0) ||
        (decide (100 ≤ limitHi.toNat * 256 + limitLo.toNat) && decide (limitHi.toNat * 256 + limitLo.toNat ≤ 60000))) &&
      absentOrBelow 16 presence && absentOrBelow 16 fault
  | .portControl, [port, action] => decide (port.toNat ≤ 7) && decide (1 ≤ action.toNat) && decide (action.toNat ≤ 4)
  | .readPort, [port, option] => decide (port.toNat ≤ 7) && decide (option.toNat ≤ 1)
  | _, _ => true

/-! ## Effects that several commands share -/

/-- The arbiter once a level has been asserted (R4). -/
def Arbiter.asserted (a : Arbiter) (l : LevelIx) (source : Source) (data : Byte) (time : Word) : Arbiter :=
  { a with levels := update a.levels l fun x =>
      { x with pending := some (match x.pending with
          | none => ⟨source, data, data, time, time, 1, false⟩
          | some r =>
            { r with
              latestData := data
              latestTime := time
              count := satInc r.count
              mixed := r.mixed || (r.source.kind != source.kind || r.source.index != source.index) }) } }

/-- The arbiter once a level that may be absent has been asserted (R84, R102, R149). -/
def Arbiter.assertedAt (a : Arbiter) (l : Option LevelIx) (source : Source) (data : Byte) (time : Word) : Arbiter :=
  match l with
  | some level => a.asserted level source data time
  | none => a

/-- The bands once a level has left service by DONE or auto-done (R12). -/
def Arbiter.rotated (a : Arbiter) (l : LevelIx) : Vector Band 4 :=
  if a.bands[bandOf l].rotation = true then update a.bands (bandOf l) fun b => { b with pointer := memberOf l }
  else a.bands

/-- `b` is the arbiter `a` after an ARBITER, TRAFFIC or LINK reset (Tables 1-7 and 2-7). -/
abbrev Arbiter.RecordsGone (a b : Arbiter) : Prop :=
  (∀ l : LevelIx, b.levels[l] = { a.levels[l] with pending := none }) ∧ b.bands = a.bands ∧ b.stack = [] ∧
  b.state = .idle ∧ b.consecutiveLapses = 0 ∧ b.totalLapses = 0 ∧ b.mode = a.mode ∧ b.number = a.number ∧
  b.takeLimit = a.takeLimit ∧ b.lapseLimit = a.lapseLimit

/-- The upper arm that a re-evaluation leaves (R86). -/
def upperArmAt (upper : Option Int) (hysteresis : Nat) (value : Int) : Bool :=
  upper.any fun u => decide (value + hysteresis ≤ u)

/-- The lower arm that a re-evaluation leaves (R86). -/
def lowerArmAt (lower : Option Int) (hysteresis : Nat) (value : Int) : Bool :=
  lower.any fun l => decide (l + hysteresis ≤ value)

/-- A tally after its clear (R88, R90). -/
def Tally.emptied (t : Tally) : Tally :=
  { t with
    value := 0
    steps := 0
    crossings := 0
    upperArm := upperArmAt t.upper t.hysteresis 0
    lowerArm := lowerArmAt t.lower t.hysteresis 0 }

/-- The silence timer after an event that starts it in full, while no attempt is in progress (R136). -/
def Port.fullSilence (pt : Port) : Option Nat :=
  if pt.presence = .present ∧ pt.config.silenceLimit ≠ 0 ∧ pt.line.reasons.backpressure = false then
    some pt.config.silenceLimit
  else none

/-- What a TRAFFIC, LINK or CONFIG reset leaves of what a line was doing (R119, R123, R129): an inbound frame is
dropped, an attempt is cut, and a cut whose 100 µs have not passed is still waited for. -/
def Activity.dropped : Activity → Activity
  | .none => .none
  | .inbound bits low _ => .inbound bits low true
  | .closing | .holdPhase _ | .awaitClock | .outbound .. => .closing

/-- `qt` is the port `pt` after a TRAFFIC or LINK reset (Table 7-9, R129). -/
abbrev Port.TrafficGone (pt qt : Port) : Prop :=
  qt.intake = [] ∧ qt.queue = [] ∧ qt.attempts = 0 ∧
  qt.silenceTimer =
    (if pt.presence = .present ∧ pt.config.silenceLimit ≠ 0 then some pt.config.silenceLimit else none) ∧
  qt.line.ready = none ∧ qt.line.reasons = ⟨pt.line.reasons.disabled, pt.line.reasons.faulted, false, false⟩ ∧
  qt.line.activity = pt.line.activity.dropped ∧
  qt.presence = pt.presence ∧ qt.endpointType = pt.endpointType ∧ qt.probeDue = pt.probeDue ∧
  qt.probeTimer = pt.probeTimer ∧ qt.lineErrorRun = pt.lineErrorRun ∧ qt.sendFailureRun = pt.sendFailureRun ∧
  qt.config = pt.config ∧ qt.stats = pt.stats

/-- `t` is the part `s` after the TRAFFIC effect (Tables 1-7, 2-7, 3-7, 4-3, 5-4, 6-4, 7-9, 8-10). -/
abbrev TrafficEffect (s t : State) : Prop :=
  s.arbiter.RecordsGone t.arbiter ∧
  t.classifier = { s.classifier with grant := 0, deferred := Vector.replicate 8 false } ∧
  (∀ i : TallyIx, t.tallies[i] = s.tallies[i].emptied) ∧ t.patterns = s.patterns ∧
  (∀ o : OutputIx, t.outputs[o] = ⟨none, none, 0, 0⟩) ∧ (∀ p : PortIx, s.ports[p].TrafficGone t.ports[p]) ∧
  t.trunk = { s.trunk with control := [], relays := [], reservations := 0, controlRun := 0, lostAlerts := 0 } ∧
  t.memory = s.memory ∧ t.timer = s.timer ∧ t.rstnLow = s.rstnLow ∧ t.freeReads = s.freeReads ∧
  t.pending = s.pending

/-- The RESULTs of transmit-queue entries that leave together, head first, with the attempts made on the first
(R139, R148). -/
def resultsOf (p : PortIx) (outcome : SendOutcome) : Nat → List TxEntry → List ControlEntry
  | _, [] => []
  | attempts, e :: rest =>
    match e.request with
    | some request =>
      ⟨.result p request e.tag e.data outcome attempts, none⟩ :: resultsOf p outcome 0 rest
    | none => resultsOf p outcome 0 rest

/-- The confirmed entries among these (R145). -/
def confirmedIn (entries : List TxEntry) : Nat := (entries.filter fun e => e.request.isSome).length

/-- The trunk unit once transmit-queue entries have left (R145, R170). -/
def Trunk.resulted (t : Trunk) (p : PortIx) (outcome : SendOutcome) (attempts : Nat) (entries : List TxEntry) : Trunk :=
  { t with
    control := t.control ++ resultsOf p outcome attempts entries
    reservations := t.reservations - confirmedIn entries }

/-- The head of a transmit queue as the line's ready frame (R146). -/
def readyHead (queue : List TxEntry) : Option Ready := queue.head?.map fun e => ⟨false, e.tag, e.data⟩

/-- A port, with no frame in progress on its line, that enters PRESENT from ABSENT (R133). -/
def Port.arrives (pt : Port) : Port :=
  { pt with
    presence := .present
    probeDue := false
    probeTimer := none
    lineErrorRun := 0
    silenceTimer :=
      if pt.config.silenceLimit ≠ 0 ∧ pt.line.reasons.backpressure = false then some pt.config.silenceLimit else none
    line := { pt.line with ready := none } }

/-- A frame of tag 0-6 joins the intake of a port with no frame in progress on its line (R141, R142). -/
def Port.receives (pt : Port) (f : Frame) : Port :=
  if pt.intake.length < 4 then
    { pt with
      intake := pt.intake ++ [f]
      line := { pt.line with
        reasons := { pt.line.reasons with backpressure := decide (3 ≤ pt.intake.length + 1) } }
      silenceTimer := if 3 ≤ pt.intake.length + 1 then none else pt.silenceTimer }
  else { pt with stats := { pt.stats with framesLost := satInc pt.stats.framesLost } }

/-- A frame that became ready, or an inbound frame that began, or a precedence that became PREEMPT (R126): the inbound
frame is held off where it is before its commit point, a frame of the transmit queue is ready and the precedence is
PREEMPT. -/
def Port.preempted (pt : Port) : Port :=
  if pt.line.ready.any (fun r => !r.probe) = true ∧ pt.config.precedence = .preempt ∧
      pt.line.beforeCommit = true then
    { pt with
      line := ⟨.none, { pt.line.reasons with preempt := true }, pt.line.ready⟩
      stats := { pt.stats with preemptedInbound := satInc pt.stats.preemptedInbound } }
  else pt

/-- An ANSWER of the port's own frame (R71, R126, R144, R146): the entry joins the transmit queue unconfirmed, and an empty
queue hands it to the line; where the queue cannot take it, it is counted as lost. -/
def Port.answers (pt : Port) (tag : Tag) (data : Byte) : Port :=
  if pt.presence = .present ∧ pt.queue.length < 4 then
    if pt.queue = [] then
      { pt with
        queue := [⟨tag, data, none⟩]
        line := { pt.line with ready := some ⟨false, tag, data⟩ } }.preempted
    else { pt with queue := pt.queue ++ [⟨tag, data, none⟩] }
  else { pt with stats := { pt.stats with answersLost := satInc pt.stats.answersLost } }

/-- The head frame leaves the intake (R65): a fill that falls to 2 withdraws BACKPRESSURE, and the silence timer starts in
full unless an attempt is in progress (R136, R142). -/
def Port.headGone (pt : Port) : Port :=
  if pt.line.reasons.backpressure = true ∧ pt.intake.length ≤ 3 then
    { pt with
      intake := pt.intake.tail
      line := { pt.line with reasons := { pt.line.reasons with backpressure := false } }
      silenceTimer :=
        if pt.presence = .present ∧ pt.config.silenceLimit ≠ 0 ∧ pt.line.attempting = false then
          some pt.config.silenceLimit
        else none }
  else { pt with intake := pt.intake.tail }

/-- What the action of entry `i` does to its owner, for a frame of port `p` (R66, R69 to R71, R84, R97). The RELAY of a
FORWARD is said apart. -/
def State.acted (s : State) (p : PortIx) (f : Frame) (i : EntryIx) : Action → State
  | .discard | .forward => s
  | .assert l =>
    { s with arbiter := s.arbiter.asserted l (.selector i p f.tag s.classifier.generation) f.data f.time }
  | .withdraw l =>
    { s with arbiter := { s.arbiter with levels := update s.arbiter.levels l fun x => { x with pending := none } } }
  | .tally k amount =>
    { s with
      tallies := update s.tallies k fun x => x.step amount
      arbiter := (s.tallies[k].crossed amount).foldl
        (fun a data => a.assertedAt s.tallies[k].target (.tally k p) data f.time) s.arbiter }
  | .signal o x =>
    { s with outputs := update s.outputs o fun y =>
        match s.patterns[x] with
        | some pattern => y.start ⟨x, pattern⟩
        | none => { y with refused := satInc y.refused } }
  | .answer tag data => { s with ports := update s.ports p fun pt => pt.answers tag data }

/-- A port, with no frame in progress on its line, that enters FAULTED (R138, R139). -/
def Port.faults (pt : Port) : Port :=
  { pt with
    presence := .faulted
    queue := []
    attempts := 0
    silenceTimer := none
    probeTimer := none
    probeDue := false
    line := ⟨pt.line.activity, { pt.line.reasons with faulted := true, preempt := false }, none⟩ }

/-- An attempt on port `p` comes to its end in this row: `answered` tells whether by ACK, and `failure` is the outcome
that its entry has if this was the third attempt and not answered (R121, R122, R146). -/
abbrev AttemptEnding (s : State) (p : PortIx) (i : Instr) (answered : Bool) (failure : SendOutcome) : Prop :=
  (i = .attemptOutcome p ∧ failure = .failedNak ∧ ∃ low, s.ports[p].line.activity = .outbound 15 low answered) ∨
  (i = .noResponse p ∧ failure = .failedSilent ∧ answered = false ∧
    (s.ports[p].line.activity = .awaitClock ∨
      ∃ given low a, given < 15 ∧ s.ports[p].line.activity = .outbound given low a))

/-- The byte of a tone (Table 10-9). -/
def Tone.byte : Tone → Byte
  | .steady => 0 | .one => 1 | .two => 2 | .three => 3

/-- The level byte of CONFIGURE_TALLY and READ_TALLY: 0 when absent (R199). -/
def targetByte : Option LevelIx → Byte
  | some l => BitVec.ofNat 8 l.val
  | none => 0

/-- What a line is doing once a DISABLED reason is raised (R113, R117, R123): a committed inbound frame runs on, another
is held off, an attempt is cut, and a cut whose 100 µs have not passed is still waited for. -/
def Activity.disabled : Activity → Activity
  | .none => .none
  | .inbound bits low gone => if bits.length < 12 then .none else .inbound bits low gone
  | .closing | .holdPhase _ | .awaitClock | .outbound .. => .closing

/-- What a line is doing once ENABLE has withdrawn the last reason (R113, R152): nothing, where a cut had put it in
HELD. -/
def Activity.enabled : Activity → Activity
  | .closing => .none
  | a => a

/-- The settings byte of CONFIGURE_PORT (R199). -/
def PortConfig.settings (c : PortConfig) : Byte :=
  flag 0 (decide (c.disposition = .discard)) ||| flag 1 (decide (c.overflow = .hold)) |||
    flag 2 (decide (c.precedence = .preempt))

/-! ## What the part sends (chapter 10) -/

/-- The 14 bytes of a request record, field by field (Tables 1-3, 10-2, 10-3). -/
def recordLayout (r : Record) : List Byte :=
  let fields (kind present index port tag : Byte) (generation : Word) : List Byte :=
    [kind, present ||| (if r.mixed = true then 0x80 else 0), index, port, tag, r.firstData, r.latestData,
      hiByte r.firstTime, loByte r.firstTime, hiByte r.latestTime, loByte r.latestTime, r.count,
      hiByte generation, loByte generation]
  match r.source with
  | .selector entry port tag generation => fields 1 0x0F (indexByte entry) (indexByte port) (tag.setWidth 8) generation
  | .tally t port => fields 2 0x03 (indexByte t) (indexByte port) 0 0
  | .presence port => fields 3 0x03 (indexByte port) (indexByte port) 0 0
  | .portFault port => fields 4 0x03 (indexByte port) (indexByte port) 0 0
  | .signal output => fields 5 0x01 (indexByte output) 0 0 0
  | .host => fields 6 0 0 0 0 0

/-- The Type and the payload of an upstream message, field by field (R196, R198, Tables 2-5, 10-1, 10-3). -/
def Upstream.layout : Upstream → Byte × List Byte
  | .control (.notice number level kind count) => (0x41, [number, indexByte level, kind.code, count])
  | .control (.detail (.taken number level record)) => (0x42, [1, 0x07, number, indexByte level] ++ recordLayout record)
  | .control (.detail (.void number level)) => (0x42, [2, 0x03, number, indexByte level] ++ List.replicate 14 0)
  | .control (.detail (.stale number)) => (0x42, [3, 0x01, number, 0xFF] ++ List.replicate 14 0)
  | .control (.detail (.recalled level record)) => (0x42, [4, 0x06, 0, indexByte level] ++ recordLayout record)
  | .control (.reply r) =>
    (0x43, [r.request, r.command, r.status.code,
      (if r.repeated = true then 1 else 0) ||| (if r.toSend = true then 2 else 0)] ++ r.data)
  | .control (.result port request tag data outcome attempts) =>
    (0x44, [indexByte port, request, tag.setWidth 8, data, outcome.code, BitVec.ofNat 8 attempts])
  | .control (.alert lost (.quiescent consecutive total level)) =>
    (0x46, [1, lost, BitVec.ofNat 8 consecutive, hiByte total, loByte total, indexByte level])
  | .control (.alert lost (.doneRefused reason value)) => (0x46, [2, lost, reason.code, value])
  | .control (.alert lost (.recallRefused value)) => (0x46, [3, lost, value])
  | .control (.alert lost (.malformed type sequence length)) => (0x46, [4, lost, type, sequence, length])
  | .control (.alert lost (.started cause rate)) => (0x46, [5, lost, cause.code, rate.code])
  | .relay r =>
    (0x45, [indexByte r.port, r.tag.setWidth 8, r.data, hiByte r.time, loByte r.time, optionalByte r.entry])

/-- The length of an upstream payload (Table 10-1, R198). -/
def Upstream.payloadLength : Upstream → Nat
  | .control (.notice ..) => 4
  | .control (.detail _) => 18
  | .control (.reply r) => 4 + r.data.length
  | .control (.result ..) => 6
  | .control (.alert _ (.quiescent ..)) => 6
  | .control (.alert _ (.doneRefused ..)) => 4
  | .control (.alert _ (.recallRefused _)) => 3
  | .control (.alert _ (.malformed ..)) => 5
  | .control (.alert _ (.started ..)) => 4
  | .relay _ => 6

/-! ## Runs of commands -/

/-- The outcome of commands carried out one after another, up to the first fault or refusal. -/
def runAll : List Instr → State → Host.Outcome State Fault Refusal
  | [], s => .next s
  | i :: rest, s =>
    match exec i s with
    | .next t => runAll rest t
    | .fault r => .fault r
    | .refused r => .refused r

/-- The characters of a message arriving on TRX, none with a framing error. -/
def arriving (characters : List Byte) : List Instr := characters.map fun c => .characterComplete c false

/-- The endpoint of a port clocks these levels of DATA, one per clock: CLK falls and rises. -/
def clocked (p : PortIx) (levels : List Bool) : List Instr :=
  levels.flatMap fun level => [.clockGiven p .falling level, .clockGiven p .rising level]

/-! ## Invariants -/

/-- A request record's own rule (R2): the count is 1 to 255, and a record of count 1 has one assertion's data and
time. -/
def Record.Good (r : Record) : Bool :=
  r.count != 0 && (r.count != 1 || (r.latestData == r.firstData && r.latestTime == r.firstTime))

/-- The service arbiter (R1, R2, R13, R31, R42, R48). -/
abbrev ArbiterInv (a : Arbiter) : Prop :=
  (a.stack.map InService.level).Nodup ∧ (∀ e ∈ a.stack, e.record.Good) ∧
  (∀ l : LevelIx, ∀ r ∈ a.levels[l].pending, r.Good) ∧
  5 ≤ a.takeLimit ∧ a.takeLimit ≤ 2000 ∧ 1 ≤ a.lapseLimit ∧ a.lapseLimit ≤ 15 ∧ a.consecutiveLapses ≤ 15 ∧
  (a.state ≠ .quiescent → a.consecutiveLapses < 15)

/-- The message is a NOTICE of this offer. -/
def ControlMessage.isNotice (number : Byte) (level : LevelIx) : ControlMessage → Bool
  | .notice n l _ _ => n == number && l == level
  | _ => false

/-- The offer that PRESENTING is in has its NOTICE in the control lane or in transmission (Table 2-1). -/
def NoticeInv (s : State) : Bool :=
  match s.arbiter.state with
  | .presenting l =>
    (s.trunk.control.any fun e => e.message.isNotice s.arbiter.number l) ||
      (match s.trunk.sending with
        | some x => match x.message with
          | .control m => m.isNotice s.arbiter.number l
          | .relay _ => false
        | none => false)
  | _ => true

/-- An action that LOAD_SELECTOR can write (Table 3-3). -/
def Action.Good : Action → Bool
  | .tally _ step => decide (-127 ≤ step) && decide (step ≤ 127) && step != 0
  | .answer tag _ => tag != 7
  | _ => true

/-- A selector entry: valid with its fields in range, or in cleared form (R51, R52, R72). -/
def Selector.Good (e : Selector) : Bool :=
  e == Selector.cleared ||
    (e.valid && e.ports != 0 && decide (e.low ≤ e.high) && e.tag != some 7 && e.action.Good)

/-- The two banks (R51, R52). -/
abbrev ClassifierInv (c : Classifier) : Prop :=
  (∀ i : EntryIx, c.bankA[i].entry.Good) ∧ (∀ i : EntryIx, c.bankB[i].entry.Good)

/-- A port whose head frame is marked deferred has a head frame (R57, R59). -/
abbrev DeferredInv (s : State) : Prop := ∀ p : PortIx, s.classifier.deferred[p] = true → s.ports[p].intake ≠ []

/-- A value that a tally or a threshold can have (Table 4-1). -/
def tallyRange (v : Int) : Bool := decide (-32768 ≤ v) && decide (v ≤ 32767)

/-- A tally (R80): the ranges, the order of the thresholds, and no arm armed without its threshold or on the crossed
side of it. -/
def Tally.Good (t : Tally) : Bool :=
  tallyRange t.value && decide (1 ≤ t.hysteresis) && decide (t.hysteresis ≤ 255) &&
  (match t.upper with
    | none => !t.upperArm
    | some u => tallyRange u && (!t.upperArm || decide (t.value < u))) &&
  (match t.lower with
    | none => !t.lowerArm
    | some l => tallyRange l && (!t.lowerArm || decide (l < t.value))) &&
  (match t.upper, t.lower with
    | some u, some l => decide (l < u)
    | _, _ => true)

/-- A pattern that LOAD_PATTERN can write (R91, R92). -/
def Pattern.Good (x : Pattern) : Bool :=
  x.mark != 0 && decide (x.count ≤ 1000) && (x.longMark || x.space != 0) && (!x.longMark || x.count != 0)

/-- A burst in progress (R95, R99, R100, R101): a counted burst has marks to run, a long-mark burst is in its one
mark, and a continuous burst counts none. -/
def Burst.Good (b : Burst) : Bool :=
  b.copy.pattern.Good && decide (b.remaining ≤ 1000) &&
  (if b.copy.pattern.longMark then b.phase == .mark && b.remaining == 1
    else if b.copy.pattern.count = 0 then b.remaining == 0
    else decide (1 ≤ b.remaining) && decide (b.remaining ≤ b.copy.pattern.count))

/-- An output (R93): IDLE holds no waiting pattern, and what it holds can be played. -/
def Output.Good (o : Output) : Bool :=
  (match o.running with
    | none => o.waiting.isNone
    | some b => b.Good) &&
  o.waiting.all fun x => x.pattern.Good

/-- The signal unit (R91, R93). -/
abbrev SignalInv (s : State) : Prop :=
  (∀ i : PatternIx, ∀ x ∈ s.patterns[i], x.Good) ∧ (∀ o : OutputIx, s.outputs[o].Good)

/-- The ready frame of a line is the one its port has handed to it: a probe only in ABSENT, the head entry only in
PRESENT, and in PRESENT the head always (R134, R146). -/
def Port.readyGood (pt : Port) : Bool :=
  match pt.line.ready with
  | none => pt.queue.isEmpty
  | some r =>
    if r.probe then pt.presence == .absent && r.tag == 7 && r.data == 0
    else pt.presence == .present &&
      (match pt.queue with
        | [] => false
        | e :: _ => r.tag == e.tag && r.data == e.data)

/-- What the line is doing is consistent with its reasons (R111, R113, R116, R123). -/
def Line.good (l : Line) : Bool :=
  match l.activity with
  | .none => true
  | .inbound bits low _ =>
    decide (bits.length ≤ 15) && (!low || decide (bits.length < 15)) &&
      (!l.reasons.any || decide (12 ≤ bits.length))
  | .holdPhase _ => l.ready.isSome && !l.reasons.disabled && !l.reasons.faulted
  | .awaitClock => l.ready.isSome && !l.reasons.disabled && !l.reasons.faulted && !l.reasons.preempt
  | .outbound given low _ =>
    l.ready.isSome && !l.reasons.disabled && !l.reasons.faulted && !l.reasons.preempt && decide (given ≤ 15) &&
      (!low || decide (given < 15))
  | .closing => !l.reasons.faulted && !l.reasons.backpressure && !l.reasons.preempt

/-- A branch port with its line (R131, R132, R134, R136, R138, R141 to R143, R146, R151). -/
abbrev PortInv (pt : Port) : Prop :=
  pt.intake.length ≤ 4 ∧ pt.queue.length ≤ 4 ∧ pt.attempts ≤ 3 ∧
  (∀ f ∈ pt.intake, f.tag ≠ 7) ∧ (∀ e ∈ pt.queue, e.tag ≠ 7) ∧
  (pt.line.reasons.backpressure = true ↔ 3 ≤ pt.intake.length) ∧
  (pt.line.reasons.disabled = true ↔ pt.presence = .disabled) ∧
  (pt.line.reasons.faulted = true ↔ pt.presence = .faulted) ∧
  (pt.presence ≠ .present → pt.queue = []) ∧ (pt.presence = .disabled → pt.intake = []) ∧
  (pt.queue = [] → pt.attempts = 0) ∧ (pt.line.attempting = false → pt.attempts < 3) ∧
  (pt.line.attempting = true → pt.queue ≠ [] → 0 < pt.attempts) ∧
  (pt.line.reasons.preempt = true → pt.line.ready.any (fun r => !r.probe) = true) ∧
  (pt.probeTimer.isSome = true ↔ pt.presence = .absent) ∧ (pt.probeDue = true → pt.presence = .absent) ∧
  (pt.silenceTimer.isSome = true → pt.presence = .present ∧ pt.config.silenceLimit ≠ 0 ∧
    pt.line.reasons.backpressure = false ∧ pt.line.attempting = false) ∧
  pt.lineErrorRun ≤ 8 ∧ pt.sendFailureRun ≤ 4 ∧
  (pt.presence = .absent ∨ pt.presence = .present → pt.lineErrorRun < 8 ∧ pt.sendFailureRun < 4) ∧
  silenceLimitOk pt.config.silenceLimit = true ∧ pt.readyGood = true ∧ pt.line.good = true

/-- All eight ports. -/
abbrev PortsInv (s : State) : Prop := ∀ p : PortIx, PortInv s.ports[p]

/-- The confirmed entries in all eight transmit queues together (R145, R170). -/
def State.confirmedEntries (s : State) : Nat :=
  (s.ports.toList.map fun pt => (pt.queue.filter fun e => e.request.isSome).length).sum

/-- The lanes (R168, R169, R170, R171). -/
abbrev LaneInv (s : State) : Prop :=
  s.trunk.control.length + s.trunk.reservations ≤ 16 ∧ s.trunk.relays.length ≤ 24 ∧
  s.trunk.reservations = s.confirmedEntries ∧ s.trunk.controlRun ≤ 8

/-- A receiver in BODY (R161): the Length is in range, and the message has not reached its second Check byte. -/
def Receiver.Good : Receiver → Bool
  | .body (length :: rest) _ =>
    decide (2 ≤ length.toNat) && decide (length.toNat ≤ 42) && decide (rest.length + 1 < length.toNat + 3)
  | _ => true

/-- What the sequence memory holds is a first REPLY, and echoes its Sequence (R179, R184). -/
def Remembered.Good (m : Remembered) : Bool := m.reply.repeated == false && m.reply.request == m.sequence

/-- The receiver and the request unit. -/
abbrev ReceiverInv (s : State) : Prop := s.trunk.receiver.Good ∧ (∀ m ∈ s.memory, m.Good)

end Sys2Proof.Machine
end

