-- ==== Sys2Proof/Certificates/Slice0/Obligations.lean ====
section
/-! DEFINITION. The statements for the provers. Each docstring names the rules of the spec that it formalises, or the
entry of the assumption log for a choice of the model's own. -/

open Sys2Proof Sys2Proof.Machine

/-! ## The block as a whole -/

/-- One step takes the command at the front of the queue and runs it with the queue's rest; on an empty queue the block
idles. Model's choice: log 1 and log 2. -/
def Obligations.StepRunsTheFrontCommand : Prop :=
  ∀ (s : State) (c : Instr) (rest : List Instr),
    (s.pending = c :: rest → step s = exec c { s with pending := rest }) ∧ (s.pending = [] → step s = .next s)

/-- No command stops the part, and no command touches the queue of waiting commands. Model's choice for the queue:
log 1. -/
def Obligations.EveryCommandAnswersAState : Prop :=
  ∀ (i : Instr) (s : State), ∃ t, exec i s = .next t ∧ t.pending = s.pending

/-- The values that the spec gives for a COLD reset (Tables 1-1, 2-7, 3-7, 4-1, 5-4, 6-4, 7-1, 8-10, 9-9; R173), with
the pins low, released and at mark. That the state is the one at the end of the reset, with STARTED queued, is the
reading of log 7; that no message is in transmission, log 24; that the receiver waits for no mark, log 30. -/
def Obligations.ResetIsTheColdState : Prop :=
  let s := State.reset
  (∀ l : LevelIx, s.arbiter.levels[l] = ⟨true, false, none⟩) ∧ (∀ b : BandIx, s.arbiter.bands[b] = ⟨false, 3⟩) ∧
  s.arbiter.stack = [] ∧ s.arbiter.mode = .nested ∧ s.arbiter.state = .idle ∧ s.arbiter.number = 0 ∧
  s.arbiter.takeLimit = 50 ∧ s.arbiter.lapseLimit = 4 ∧ s.arbiter.consecutiveLapses = 0 ∧ s.arbiter.totalLapses = 0 ∧
  (∀ i : EntryIx, s.classifier.bankA[i] = ⟨⟨false, false, 0, none, 0, 255, .discard⟩, 0⟩) ∧
  (∀ i : EntryIx, s.classifier.bankB[i] = ⟨⟨false, false, 0, none, 0, 255, .discard⟩, 0⟩) ∧
  s.classifier.active = .a ∧ s.classifier.generation = 0 ∧ s.classifier.grant = 0 ∧
  (∀ p : PortIx, s.classifier.deferred[p] = false) ∧
  (∀ i : TallyIx, s.tallies[i] = ⟨0, none, none, 1, none, false, false, 0, 0⟩) ∧
  (∀ i : PatternIx, s.patterns[i] = none) ∧
  (∀ o : OutputIx, s.outputs[o] = ⟨none, none, 0, 0⟩ ∧ s.outputs[o].pin = .low) ∧
  (∀ p : PortIx, s.ports[p].presence = .absent ∧ s.ports[p].endpointType = none ∧ s.ports[p].probeDue = true ∧
    s.ports[p].probeTimer = some 250 ∧ s.ports[p].silenceTimer = none ∧ s.ports[p].intake = [] ∧
    s.ports[p].queue = [] ∧ s.ports[p].attempts = 0 ∧ s.ports[p].lineErrorRun = 0 ∧ s.ports[p].sendFailureRun = 0 ∧
    s.ports[p].config = ⟨.forward, .drop, .yield, 2000, none, none⟩ ∧ s.ports[p].stats = ⟨0, 0, 0, 0, 0, 0, 0, 0⟩ ∧
    s.ports[p].line.state = .quiet ∧ s.ports[p].line.ready = none ∧ s.ports[p].line.pullsClk = false ∧
    s.ports[p].line.pullsData = false) ∧
  s.trunk.receiver = .hunt ∧ s.trunk.awaitsMark = false ∧ (∀ n, s.trunk.ttx n = true) ∧
  s.trunk.control = [⟨.alert 0 (.started .cold .r115200), none⟩] ∧ s.trunk.relays = [] ∧
  s.trunk.reservations = 0 ∧ s.trunk.controlRun = 0 ∧ s.trunk.sequence = 0 ∧ s.trunk.lostAlerts = 0 ∧
  s.trunk.checkErrors = 0 ∧ s.trunk.gapAborts = 0 ∧ s.trunk.lengthErrors = 0 ∧ s.trunk.overruns = 0 ∧
  s.trunk.rate = .r115200 ∧ s.memory = none ∧ s.timer = 0

/-! ## Messages on the wire -/

/-- Reading the message that a row stands for gives the row back, for every row that stands for a message, with every
operand at every value (R194, R196, R199, Tables 10-1, 10-4, 10-7). -/
def Obligations.RowsSurviveTheWire : Prop :=
  ∀ (i : Instr) (spare : Byte) (m : TrunkMessage),
    i.wellFormed = true → encodeMessage spare i = some m → m.payload.length ≤ 40 ∧ decodeMessage m = i

/-- Every message that fits is one row of the table, a well-formed one, and that row stands for it (R164, R194,
R199). -/
def Obligations.MessagesAreRows : Prop :=
  ∀ m : TrunkMessage, m.payload.length ≤ 40 →
    (decodeMessage m).wellFormed = true ∧ encodeMessage m.sequence (decodeMessage m) = some m

/-- From HUNT, the characters of a message, arriving one by one without a framing error, do what the row of the message
does (R159, R160, R161, R163, R164, R194); and on TRX a character is ten bit times, complete at its stop bit, with the
wait for mark after a framing error (R157), so that the levels of the message do what its row does. That a row stands
for the whole message is log 5, and that its last character carries it out is log 6; the levels are one per bit time,
log 21. -/
def Obligations.CharactersMakeTheMessage : Prop :=
  (∀ (s : State) (m : TrunkMessage), s.rstnLow = false → s.trunk.receiver = .hunt → m.payload.length ≤ 40 →
    runAll (arriving m.characters) s = exec (decodeMessage m) s ∧
    (s.trunk.awaitsMark = false →
      runAll (s.trunk.characterRows (m.characters.flatMap characterLevels)) s = exec (decodeMessage m) s)) ∧
  (∀ (t : Trunk) (value : Byte) (stop : Bool) (idle : Nat) (rest : List Bool), (t.awaitsMark = true → 0 < idle) →
    t.characterRows (List.replicate idle true ++ false :: ((List.range 8).map value.getLsbD ++ stop :: rest)) =
      .characterComplete value (!stop) :: { t with awaitsMark := !stop }.characterRows rest) ∧
  (∀ (t : Trunk) (n : Nat) (rest : List Bool), t.awaitsMark = true →
    t.characterRows (List.replicate n false) = [] ∧
    t.characterRows (List.replicate n false ++ true :: rest) = { t with awaitsMark := false }.characterRows rest)

/-- The check of R159: bytes followed by their own check leave the register at 0, and one wrong bit anywhere changes
the check. -/
def Obligations.CheckSeesOneWrongBit : Prop :=
  (∀ bytes : List Byte, crc (bytes ++ word (crc bytes)) = 0) ∧
  (∀ (before after : List Byte) (b : Byte) (i : Nat), i < 8 →
    crc (before ++ (b ^^^ BitVec.twoPow 8 i) :: after) ≠ crc (before ++ b :: after))

/-- CHARACTER_COMPLETE in every receiver state, up to the judgement (R157, R160, R161, R163, R165): what opens a message, an
out-of-range Length, the collecting, and the discarding of a damaged message or one whose check does not match; and after
a framing error the wait for mark. -/
def Obligations.ReceiverCollects : Prop :=
  ∀ (s : State) (v : Byte) (bad : Bool), s.rstnLow = false →
    (s.trunk.receiver = .hunt →
      exec (.characterComplete v bad) s =
        .next { s with trunk :=
          if v = 0xC3 ∧ bad = false then { s.trunk with receiver := .body [] false, awaitsMark := bad }
          else { s.trunk with awaitsMark := bad } }) ∧
    (s.trunk.receiver = .inBreak → exec (.characterComplete v bad) s = .next s) ∧
    (∀ damaged, s.trunk.receiver = .body [] damaged →
      exec (.characterComplete v bad) s =
        .next { s with trunk :=
          if v.toNat < 2 ∨ 42 < v.toNat then
            { s.trunk with receiver := .hunt, awaitsMark := bad, lengthErrors := satInc s.trunk.lengthErrors }
          else { s.trunk with receiver := .body [v] (damaged || bad), awaitsMark := bad } }) ∧
    (∀ (length : Byte) (rest : List Byte) (damaged : Bool), s.trunk.receiver = .body (length :: rest) damaged →
      (rest.length + 2 < length.toNat + 3 →
        exec (.characterComplete v bad) s =
          .next { s with trunk :=
            { s.trunk with receiver := .body (length :: rest ++ [v]) (damaged || bad), awaitsMark := bad } }) ∧
      (∀ (body : List Byte) (hi lo : Byte), length :: rest ++ [v] = body ++ [hi, lo] →
        length.toNat + 3 ≤ rest.length + 2 → damaged = true ∨ bad = true ∨ crc body ≠ wordOf hi lo →
          exec (.characterComplete v bad) s =
            .next { s with trunk :=
              { s.trunk with receiver := .hunt, awaitsMark := bad, checkErrors := satInc s.trunk.checkErrors } }))

/-- The rows of a discarded message (R161, R162, R163, R174): the receiver is in HUNT and one counter has gone up. A
GAP_ABORT outside BODY changes nothing (log 3), as do the others where no message is taken (log 5); their last stop bit
is at mark (log 30). -/
def Obligations.DiscardedMessagesAreCounted : Prop :=
  ∀ s : State,
    (s.Hears → exec .lengthError s =
      .next { s with trunk :=
        { s.trunk with receiver := .hunt, awaitsMark := false, lengthErrors := satInc s.trunk.lengthErrors } }) ∧
    (s.Hears → exec .checkError s =
      .next { s with trunk :=
        { s.trunk with receiver := .hunt, awaitsMark := false, checkErrors := satInc s.trunk.checkErrors } }) ∧
    (∀ collected damaged, s.rstnLow = false → s.trunk.receiver = .body collected damaged → exec .gapAbort s =
      .next { s with trunk := { s.trunk with receiver := .hunt, gapAborts := satInc s.trunk.gapAborts } }) ∧
    ((∀ collected damaged, s.trunk.receiver ≠ .body collected damaged) → exec .gapAbort s = .next s) ∧
    (¬ s.Hears → exec .lengthError s = .next s ∧ exec .checkError s = .next s)

/-- A valid message that fails the form check draws ALERT MALFORMED with its Type, Sequence and payload length, queued
or counted as lost, and nothing else but the release from QUIESCENT (R41, R164, R172, Table 10-1). -/
def Obligations.MalformedDrawsItsAlert : Prop :=
  ∀ (s : State) (type sequence : Byte) (payload : List Byte), s.Hears → payload.length ≤ 40 →
    ¬ (type.toNat ∈ [1, 2, 3] ∧ payload.length = 1) → ¬ (type.toNat = 4 ∧ payload.length = 4) →
    ¬ (type.toNat = 5 ∧ 1 ≤ payload.length) →
      exec (.malformed type sequence payload) s =
        .next (s.heard.alerted (.malformed type sequence (BitVec.ofNat 8 payload.length)))

/-- Every row that is a message first releases the arbiter from QUIESCENT and leaves the receiver in HUNT, and then
acts as it would on that state (R41, R163, R202); where no message is taken it changes nothing (R165, R177). That a row
stands for the whole message is log 5. -/
def Obligations.MessagesReleaseTheArbiterFirst : Prop :=
  ∀ (s : State) (i : Instr) (spare : Byte) (m : TrunkMessage), encodeMessage spare i = some m →
    (s.Hears → exec i s = exec i s.heard) ∧ (¬ s.Hears → exec i s = .next s)

/-! ## Sequenced requests -/

/-- A duplicate is answered from the sequence memory: the stored REPLY, unchanged but for the repeat flag and without
a pending rate, or one overrun where there is no room; nothing is executed (R180). -/
def Obligations.DuplicatesComeFromMemory : Prop :=
  ∀ (s : State) (i : Instr) (m : Remembered), i.requestSequence = some m.sequence → s.Hears → s.memory = some m →
    exec i s =
      .next (if s.HasRoom then s.heard.queued (.reply { m.reply with repeated := true }) else s.heard.overran)

/-- A request that is no duplicate and finds no free unreserved entry is ignored: one overrun more, and nothing stored
(R181). -/
def Obligations.RequestsWithoutRoomAreIgnored : Prop :=
  ∀ (s : State) (i : Instr) (sequence : Byte), i.requestSequence = some sequence → s.Hears →
    ¬ s.Remembers sequence → ¬ s.HasRoom → exec i s = .next s.heard.overran

/-- An executed request stores and queues one REPLY, with its repeat flag clear, echoing the Sequence; and where the
status is not OK, there is no result data and nothing else has changed (R178, R179, R182, R184, R185). Its payload has 4
to 40 bytes (Table 10-1). -/
def Obligations.RefusedRequestsChangeNothing : Prop :=
  ∀ (s : State) (i : Instr) (sequence : Byte), i.requestSequence = some sequence → s.Admits sequence →
    ∃ t reply, exec i s = .next t ∧ t.memory = some ⟨sequence, reply⟩ ∧ reply.request = sequence ∧
      reply.repeated = false ∧ (t.trunk.control.getLast?.map ControlEntry.message) = some (.reply reply) ∧
      4 ≤ (ControlMessage.reply reply).payload.length ∧ (ControlMessage.reply reply).payload.length ≤ 40 ∧
      (reply.status ≠ .ok → reply.data = [] ∧
        t = { s.heard.queued (.reply reply) with memory := some ⟨sequence, reply⟩ })

/-- A COMMAND code that names no command is answered UNKNOWN, with the code echoed, whatever its arguments; a COMMAND whose
argument bytes do not number its argument length is answered BAD_LENGTH (R185, R199, Table 10-4). -/
def Obligations.CodeAndLengthAreChecked : Prop :=
  ∀ (s : State) (sequence : Byte) (arguments : List Byte), s.Admits sequence →
    (∀ code : Byte,
      code.toNat ∉ [1, 2, 3, 4, 16, 17, 18, 19, 20, 21, 24, 25, 32, 33, 34, 35, 36, 40, 41, 48, 49, 50, 51, 56, 57, 58] →
      exec (.commandUnknown sequence code arguments) s = .next (s.heard.replied sequence code .unknown [])) ∧
    (∀ c : Command, arguments.length ≠ c.argumentLength →
      exec (commandRow c sequence arguments) s = .next (s.heard.replied sequence c.code .badLength []))

/-- A COMMAND of the right length is answered RANGE exactly when an argument is out of its range (R185, R195, R200,
R201, and the rule of each command). That bits 3 to 7 of CONFIGURE_TALLY's flags byte are reserved is the model's
reading: log 28. -/
def Obligations.RangeIsExact : Prop :=
  ∀ (s : State) (c : Command) (sequence : Byte) (arguments : List Byte), s.Admits sequence →
    arguments.length = c.argumentLength →
      (c.inRange arguments = false →
        exec (commandRow c sequence arguments) s = .next (s.heard.replied sequence c.code .range [])) ∧
      (c.inRange arguments = true →
        ∃ t reply, exec (commandRow c sequence arguments) s = .next t ∧ t.memory = some ⟨sequence, reply⟩ ∧
          reply.status ≠ .range)

/-! ## The part as a whole -/

/-- IDENTIFY, GET_STATUS and SET_LINK (R186, R188, R189, Tables 10-4, 10-5): what each reports, the trunk counters
cleared on request, and the rate attached to the REPLY of a SET_LINK. -/
def Obligations.GeneralCommandsAnswer : Prop :=
  ∀ (s : State) (sequence : Byte), s.Admits sequence →
    exec (.identify sequence []) s =
      .next (s.heard.replied sequence 0x01 .ok [0x5C, 0x08, 0x01, 8, 16, 48, 8, 4, 16, 16, 24]) ∧
    (∀ clear : Bool, ∃ presences : Word,
      (∀ p : PortIx, presences.extractLsb' (2 * p.val) 2 = s.ports[p].presence.code.setWidth 2) ∧
      exec (.getStatus sequence [settingByte clear]) s =
        .next ((if clear = true then
            { s.heard with trunk :=
              { s.heard.trunk with checkErrors := 0, gapAborts := 0, lengthErrors := 0, overruns := 0 } }
          else s.heard).replied sequence 0x02 .ok
            ([hiByte s.timer, loByte s.timer, s.heard.arbiter.state.code, hiByte presences, loByte presences,
              BitVec.ofNat 8 s.trunk.control.length, BitVec.ofNat 8 s.trunk.reservations,
              BitVec.ofNat 8 s.trunk.relays.length, s.trunk.lostAlerts] ++
            word s.trunk.checkErrors ++ word s.trunk.gapAborts ++ word s.trunk.lengthErrors ++
            word s.trunk.overruns ++ [s.trunk.rate.code, s.classifier.active.code] ++
            word s.classifier.generation))) ∧
    (∀ rate : LinkRate, exec (.setLink sequence [rate.code]) s =
      .next { s.heard with
        trunk := { s.heard.trunk with
          control := s.trunk.control ++ [⟨.reply ⟨sequence, 0x03, false, .ok, false, [rate.code]⟩, some rate⟩] }
        memory := some ⟨sequence, ⟨sequence, 0x03, false, .ok, false, [rate.code]⟩⟩ })

/-- RESET of scope ARBITER and of scope TRAFFIC, and a break (R24, R50, R79, R90, R107, R129, R156, R165, R176, R190):
what each block keeps and loses, the REPLY alone in the flushed control lane, and after a break the sequence memory
empty and the receiver in BREAK. Model's reading: the silence timer runs during the close of a cut (log 10), and the
reasons are withdrawn before the cut looks for one (log 12). The queue and the free-value counter are kept (log 25). -/
def Obligations.WorkInFlightIsReset : Prop :=
  ∀ (s : State) (sequence : Byte),
    (s.Admits sequence → ∃ a : Arbiter, s.heard.arbiter.RecordsGone a ∧
      exec (.resetArbiter sequence []) s = .next ({ s.heard with arbiter := a }.replied sequence 0x04 .ok [1])) ∧
    (s.Admits sequence → ∃ t : State, TrafficEffect s.heard t ∧
      exec (.resetTraffic sequence []) s = .next (t.replied sequence 0x04 .ok [2])) ∧
    (s.Hears → ∃ t : State, TrafficEffect s t ∧
      exec .breakDetected s = .next { t with memory := none, trunk := { t.trunk with receiver := .inBreak } }) ∧
    (s.trunk.receiver = .inBreak → exec .breakDetected s = .next s)

/-- RESET of scope CONFIG (Tables 1-7, 2-7, 3-7, 4-3, 5-4, 6-4, 7-9, 8-10, R190): everything as after a COLD reset but
the presentation number, the part timer, what the trunk unit keeps, and what the lines end: a line with an attempt, or in
HELD with the 100 µs of a cut not passed, is in the close of the cut, and a line with nothing in progress is QUIET (R129).
Model's reading: the reasons are withdrawn before the cut looks for one (log 12), and an older cut is waited for in OUTBOUND
until CUT_END (log 32). The queue and the free-value counter are kept (log 25). -/
def Obligations.ConfigurationIsReset : Prop :=
  ∀ (s : State) (sequence : Byte), s.Admits sequence → ∃ ports : Vector Port 8,
    (∀ p : PortIx, ports[p] = { State.reset.ports[p] with
      line := ⟨s.ports[p].line.activity.dropped, ⟨false, false, false, false⟩, none⟩ }) ∧
    (∀ p : PortIx, s.ports[p].line.attempting = true ∨ s.ports[p].line.activity = .closing →
      ports[p].line.state = .outbound ∧ ports[p].line.pullsClk = true) ∧
    (∀ p : PortIx, s.ports[p].line.activity = .none → ports[p].line.state = .quiet) ∧
    exec (.resetConfig sequence []) s =
      .next ({ State.reset with
        arbiter := { State.reset.arbiter with number := s.arbiter.number }
        ports := ports
        trunk := { s.heard.trunk with
          control := [], relays := [], reservations := 0, controlRun := 0, lostAlerts := 0 }
        timer := s.timer
        rstnLow := s.rstnLow
        freeReads := s.freeReads
        pending := s.pending }.replied sequence 0x04 .ok [3])

/-- A COLD reset and its end, and the return of TRX to mark after a break (R165, R172, R173, R176, R177). While RSTN is
low the state is that after a COLD reset with nothing queued; a message in transmission runs on without its pending
rate. Model's reading: the reset spans two rows (log 7), keeps the queue and the free-value counter (log 25), and puts the
rate of 115200 in force at once, also while a message is still in transmission (log 29). BREAK_END outside BREAK and
RSTN_RELEASED with RSTN released change nothing: log 3. -/
def Obligations.StartsAreAnnounced : Prop :=
  ∀ s : State,
    exec .coldReset s =
      .next { State.reset with
        trunk := { State.reset.trunk with
          control := []
          sending := s.trunk.sending.map fun x => { x with pendingRate := none } }
        rstnLow := true
        freeReads := s.freeReads
        pending := s.pending } ∧
    (s.rstnLow = true → exec .rstnReleased s =
      .next ({ s with rstnLow := false, timer := 0, trunk := { s.trunk with receiver := .hunt } }.alerted
        (.started .cold s.trunk.rate))) ∧
    (s.rstnLow = false → exec .rstnReleased s = .next s) ∧
    runAll [.coldReset, .rstnReleased] s =
      .next { State.reset with
        trunk := { State.reset.trunk with
          sending := s.trunk.sending.map fun x => { x with pendingRate := none } }
        freeReads := s.freeReads
        pending := s.pending } ∧
    (s.rstnLow = false → s.trunk.receiver = .inBreak → exec .breakEnd s =
      .next ({ s with trunk := { s.trunk with receiver := .hunt, awaitsMark := false } }.alerted
        (.started .linkBreak s.trunk.rate))) ∧
    (s.trunk.receiver ≠ .inBreak → exec .breakEnd s = .next s)

/-- While RSTN is low, only the two rows of the COLD reset and the end of a message in transmission do anything (R130,
R177); otherwise the part timer counts (R187). Model's reading for the other rows: log 8. -/
def Obligations.NothingRunsWhileReset : Prop :=
  (∀ (s : State) (i : Instr), s.rstnLow = true → i ≠ .coldReset → i ≠ .rstnReleased → i ≠ .transmitEnd →
    exec i s = .next s) ∧
  (∀ s : State, s.rstnLow = false → exec .partTimerTick s = .next { s with timer := s.timer + 1 })

/-! ## Levels and the arbiter -/

/-- CONFIGURE_LEVEL, CONFIGURE_BAND and SET_ARBITER write what they carry and nothing else (R20, R21, R48). -/
def Obligations.ArbiterSettingsAreWritten : Prop :=
  ∀ (s : State) (sequence : Byte), s.Admits sequence →
    (∀ (l : LevelIx) (masked autoDone : Bool),
      exec (.configureLevel sequence [indexByte l, settingByte masked, settingByte autoDone]) s =
        .next ({ s.heard with arbiter := { s.heard.arbiter with
          levels := update s.arbiter.levels l fun x => ⟨masked, autoDone, x.pending⟩ } }.replied
            sequence 0x10 .ok [])) ∧
    (∀ (b : BandIx) (rotation : Bool) (pointer : Fin 4),
      exec (.configureBand sequence [indexByte b, settingByte rotation, indexByte pointer]) s =
        .next ({ s.heard with arbiter := { s.heard.arbiter with
          bands := update s.arbiter.bands b fun _ => ⟨rotation, pointer⟩ } }.replied sequence 0x11 .ok [])) ∧
    (∀ (mode : Mode) (take : Word) (lapse : Byte), 5 ≤ take.toNat → take.toNat ≤ 2000 → 1 ≤ lapse.toNat →
      lapse.toNat ≤ 15 →
      exec (.setArbiter sequence [mode.code, hiByte take, loByte take, lapse]) s =
        .next ({ s.heard with arbiter := { s.heard.arbiter with
          mode := mode, takeLimit := take.toNat, lapseLimit := lapse.toNat } }.replied sequence 0x18 .ok []))

/-- SET_MASKS (R22): the three operations rewrite the masks and nothing else, and the REPLY holds the set of masked
levels; another operation gives RANGE. -/
def Obligations.MasksAreSet : Prop :=
  ∀ (s : State) (sequence : Byte) (set : Word), s.Admits sequence →
    (∀ (i : Instr) (masked : LevelIx → Bool),
      (i = .setMasksAssign sequence [hiByte set, loByte set] ∧ masked = fun l : LevelIx => set.getLsbD l) ∨
      (i = .setMasksMask sequence [hiByte set, loByte set] ∧
        masked = fun l : LevelIx => s.arbiter.levels[l].masked || set.getLsbD l) ∨
      (i = .setMasksUnmask sequence [hiByte set, loByte set] ∧
        masked = fun l : LevelIx => s.arbiter.levels[l].masked && !set.getLsbD l) →
      ∃ (levels : Vector Level 16) (result : Word),
        (∀ l : LevelIx, levels[l] = { s.arbiter.levels[l] with masked := masked l } ∧ result.getLsbD l = masked l) ∧
        exec i s = .next ({ s.heard with arbiter := { s.heard.arbiter with levels := levels } }.replied
          sequence 0x12 .ok [hiByte result, loByte result])) ∧
    (∀ operation : Byte, operation ≠ 1 → operation ≠ 2 → operation ≠ 3 →
      exec (.commandUnknown sequence 0x12 [operation, hiByte set, loByte set]) s =
        .next (s.heard.replied sequence 0x12 .range []))

/-- ASSERT_LEVEL and WITHDRAW_LEVEL (R4, R6, R23): what becomes of the pending record, and the count in the REPLY. -/
def Obligations.HostAssertsAndWithdraws : Prop :=
  ∀ (s : State) (sequence : Byte) (l : LevelIx), s.Admits sequence →
    (∀ value : Byte,
      (s.arbiter.levels[l].pending = none →
        exec (.assertLevel sequence [indexByte l, value]) s =
          .next ({ s.heard with arbiter := { s.heard.arbiter with
            levels := update s.arbiter.levels l fun x =>
              { x with pending := some ⟨.host, value, value, s.timer, s.timer, 1, false⟩ } } }.replied
                sequence 0x13 .ok [1])) ∧
      (∀ r : Record, s.arbiter.levels[l].pending = some r →
        exec (.assertLevel sequence [indexByte l, value]) s =
          .next ({ s.heard with arbiter := { s.heard.arbiter with
            levels := update s.arbiter.levels l fun x =>
              { x with pending := some ⟨r.source, r.firstData, value, r.firstTime, s.timer,
                if r.count = 255 then 255 else r.count + 1, r.mixed || r.source != Source.host⟩ } } }.replied
                  sequence 0x13 .ok [if r.count = 255 then 255 else r.count + 1]))) ∧
    exec (.withdrawLevel sequence [indexByte l]) s =
      .next ({ s.heard with arbiter := { s.heard.arbiter with
        levels := update s.arbiter.levels l fun x => { x with pending := none } } }.replied
          sequence 0x14 .ok [(s.arbiter.levels[l].pending.map Record.count).getD 0])

/-- READ_LEVEL and READ_ARBITER report and change nothing (R23, R49, Tables 2-6, 10-6). -/
def Obligations.ArbiterIsReported : Prop :=
  ∀ (s : State) (sequence : Byte), s.Admits sequence →
    (∀ l : LevelIx, ∃ flags : Byte,
      flags.getLsbD 0 = s.arbiter.levels[l].masked ∧ flags.getLsbD 1 = s.arbiter.levels[l].autoDone ∧
      flags.getLsbD 2 = s.arbiter.eligible l ∧ flags.getLsbD 3 = decide (s.arbiter.current = some l) ∧
      flags.getLsbD 4 = s.arbiter.levels[l].pending.isSome ∧ flags.getLsbD 5 = s.arbiter.inStack l ∧
      flags.getLsbD 6 = false ∧ flags.getLsbD 7 = false ∧
      exec (.readLevel sequence [indexByte l]) s =
        .next (s.heard.replied sequence 0x15 .ok
          ([flags, BitVec.ofNat 8 (l.val / 4), BitVec.ofNat 8 (s.arbiter.rank l),
            ((s.arbiter.stack.findIdx? fun e : InService => e.level == l).map (BitVec.ofNat 8)).getD 0xFF] ++
          recordBytes s.arbiter.levels[l].pending ++
          recordBytes ((s.arbiter.stack.find? fun e => e.level == l).map InService.record)))) ∧
    (∃ pendings masks : Word,
      (∀ l : LevelIx, pendings.getLsbD l = s.arbiter.levels[l].pending.isSome ∧
        masks.getLsbD l = s.arbiter.levels[l].masked) ∧
      exec (.readArbiter sequence []) s =
        .next (s.heard.replied sequence 0x19 .ok
          ([s.heard.arbiter.state.code, s.arbiter.mode.code] ++ word (BitVec.ofNat 16 s.arbiter.takeLimit) ++
          [BitVec.ofNat 8 s.arbiter.lapseLimit, s.arbiter.number, optionalByte s.arbiter.state.offered] ++
          word pendings ++ word masks ++ [BitVec.ofNat 8 s.arbiter.stack.length] ++
          ((s.arbiter.stack.map fun e : InService => indexByte e.level) ++ List.replicate 16 0xFF).take 16 ++
          ((List.finRange 4).map fun b : BandIx =>
            (if s.arbiter.bands[b].rotation = true then 0x80 else 0) ||| indexByte s.arbiter.bands[b].pointer) ++
          [BitVec.ofNat 8 s.heard.arbiter.consecutiveLapses] ++ word s.arbiter.totalLapses ++
          [optionalByte s.arbiter.highest])))

/-- The rank (R9, R10, Table 1-4): one order over the sixteen levels, band by band; in a band it begins at the member
after the pointer, wraps, and ends at the pointer. Completing a level of a rotating band makes it the lowest of its
band (R12). -/
def Obligations.RankIsOneOrder : Prop :=
  ∀ a : Arbiter,
    (∀ l : LevelIx, a.rank l < 16 ∧ a.rank l / 4 = l.val / 4) ∧
    (∀ x y : LevelIx, a.rank x = a.rank y → x = y) ∧
    (∀ l : LevelIx, l.val % 4 = (a.bands[bandOf l].pointer.val + 1) % 4 → a.rank l % 4 = 0) ∧
    (∀ x y : LevelIx, x.val / 4 = y.val / 4 → x.val % 4 ≠ a.bands[bandOf x].pointer.val →
      y.val % 4 = (x.val + 1) % 4 → a.rank y = a.rank x + 1) ∧
    (∀ l : LevelIx, a.rankOrder[a.rank l]? = some l) ∧
    (∀ l x : LevelIx, a.bands[bandOf l].rotation = true → x.val / 4 = l.val / 4 →
      (a.complete l).rank x ≤ (a.complete l).rank l)

/-- Eligibility, the highest-ranked eligible level and the current level (R15, R16, R18, R19, Table 1-5). -/
def Obligations.EligibilityFollowsTheMode : Prop :=
  ∀ (a : Arbiter) (l : LevelIx),
    (a.eligible l = true ↔
      (∃ r, a.levels[l].pending = some r) ∧ a.levels[l].masked = false ∧
      (a.mode = .nested → ∀ e ∈ a.stack, a.rank l < a.rank e.level) ∧
      (a.mode = .selective → ∀ e ∈ a.stack, a.levels[e.level].masked = false → a.rank l < a.rank e.level) ∧
      (a.mode = .single → a.stack = [])) ∧
    (∀ e ∈ a.stack, a.eligible e.level = false) ∧
    (a.highest = some l ↔ a.eligible l = true ∧ ∀ x, a.eligible x = true → a.rank l ≤ a.rank x) ∧
    (a.highest = none ↔ ∀ x, a.eligible x = false) ∧
    (a.mode ≠ .selective → a.current = (a.stack.map InService.level).head?) ∧
    (a.mode = .selective →
      a.current = ((a.stack.map InService.level).filter fun x => !a.levels[x].masked).head?)

/-- OFFER (R16, R26, R27, R28): an offer is made exactly in IDLE, with an eligible level and a free unreserved entry; it
is of the highest-ranked eligible level, under the next number, with a snapshot of the record's kind and count. -/
def Obligations.OffersAreMade : Prop :=
  ∀ s : State,
    (∀ (l : LevelIx) (r : Record), s.rstnLow = false → s.arbiter.state = .idle → s.HasRoom →
      s.arbiter.highest = some l → s.arbiter.levels[l].pending = some r →
      exec .offer s =
        .next ({ s with arbiter := { s.arbiter with
          number := s.arbiter.number + 1, state := .presenting l } }.queued
            (.notice (s.arbiter.number + 1) l r.source.kind r.count))) ∧
    (s.arbiter.state ≠ .idle ∨ ¬ s.HasRoom ∨ s.arbiter.highest = none → exec .offer s = .next s)

/-- A TAKE that finds its offer, of an eligible level (R33, R35): the pending record as it stands moves into service and
into the DETAIL TAKEN; with auto-done on, the level leaves service again at once and its band rotates. -/
def Obligations.TakenLevelsGoIntoService : Prop :=
  ∀ (s : State) (l : LevelIx) (r : Record), s.Hears → s.HasRoom → s.arbiter.state.offered = some l →
    s.arbiter.eligible l = true → s.arbiter.levels[l].pending = some r →
      exec (.take s.arbiter.number) s =
        .next ({ s.heard with arbiter := { s.arbiter with
          levels := update s.arbiter.levels l fun x => { x with pending := none }
          stack := if s.arbiter.levels[l].autoDone = true then s.arbiter.stack else ⟨l, r⟩ :: s.arbiter.stack
          bands := if s.arbiter.levels[l].autoDone = true then s.arbiter.rotated l else s.arbiter.bands
          state := .idle
          consecutiveLapses := 0 } }.queued (.detail (.taken s.arbiter.number l r)))

/-- The other outcomes of a TAKE (R32, R34, R36): VOID where the offered level is no longer eligible, STALE where no
outstanding offer has the number, and nothing but an overrun where there is no room for a DETAIL. -/
def Obligations.OtherTakesAreVoidStaleOrIgnored : Prop :=
  ∀ (s : State) (number : Byte), s.Hears →
    (∀ l : LevelIx, s.HasRoom → s.arbiter.state.offered = some l → s.arbiter.eligible l = false →
      number = s.arbiter.number → exec (.take number) s =
        .next ({ s.heard with arbiter := { s.arbiter with state := .idle, consecutiveLapses := 0 } }.queued
          (.detail (.void number l)))) ∧
    (s.HasRoom → number ≠ s.arbiter.number ∨ s.arbiter.state.offered = none →
      exec (.take number) s = .next (s.heard.queued (.detail (.stale number)))) ∧
    (¬ s.HasRoom → exec (.take number) s = .next s.heard.overran)

/-- DONE naming a level, and DONE naming CURRENT (R12, R13, R19, R43, R44, R46): the level leaves its place in the stack,
its band rotates where its flag is on, and nothing is queued; where there is no such level the DONE is refused with an
ALERT. -/
def Obligations.DoneCompletesALevel : Prop :=
  ∀ s : State, s.Hears → (s.arbiter.stack.map InService.level).Nodup →
    (∀ (above below : List InService) (e : InService), s.arbiter.stack = above ++ e :: below →
      exec (.done (indexByte e.level)) s =
        .next { s.heard with arbiter := { s.heard.arbiter with
          stack := above ++ below, bands := s.arbiter.rotated e.level } } ∧
      ((s.arbiter.mode ≠ .selective ∧ above = []) ∨
        (s.arbiter.mode = .selective ∧ s.arbiter.levels[e.level].masked = false ∧
          ∀ x ∈ above, s.arbiter.levels[x.level].masked = true) →
        exec .doneCurrent s =
          .next { s.heard with arbiter := { s.heard.arbiter with
            stack := above ++ below, bands := s.arbiter.rotated e.level } })) ∧
    (∀ value : Byte, value ≠ 0x80 → (∀ e ∈ s.arbiter.stack, e.level.val ≠ value.toNat) →
      exec (.done value) s = .next (s.heard.alerted (.doneRefused .notInService value))) ∧
    (s.arbiter.stack = [] ∨
      (s.arbiter.mode = .selective ∧ ∀ e ∈ s.arbiter.stack, s.arbiter.levels[e.level].masked = true) →
      exec .doneCurrent s = .next (s.heard.alerted (.doneRefused .noneInService 0x80)))

/-- RECALL (R47): the record of a level in the stack again, RECALL_REFUSED for any other value, and nothing but an overrun
where there is no room. -/
def Obligations.RecallRepeatsTheRecord : Prop :=
  ∀ (s : State) (value : Byte), s.Hears →
    (∀ e ∈ s.arbiter.stack, s.HasRoom → (s.arbiter.stack.map InService.level).Nodup → e.level.val = value.toNat →
      exec (.recall value) s = .next (s.heard.queued (.detail (.recalled e.level e.record)))) ∧
    (s.HasRoom → (∀ e ∈ s.arbiter.stack, e.level.val ≠ value.toNat) →
      exec (.recall value) s =
        .next { s.heard with trunk := { s.heard.trunk with
          control := s.trunk.control ++ [⟨.alert s.trunk.lostAlerts (.recallRefused value), none⟩]
          lostAlerts := 0 } }) ∧
    (¬ s.HasRoom → exec (.recall value) s = .next s.heard.overran)

/-- TAKE_TIMER_EXPIRY (R39, R40): both lapse counts go up and the arbiter returns to IDLE; at the lapse limit it enters
QUIESCENT with an ALERT, and no level changes. Where no timer runs nothing happens: log 3. -/
def Obligations.LapsesLeadToQuiescence : Prop :=
  ∀ s : State, s.rstnLow = false →
    (∀ (l : LevelIx) (timer : Nat), s.arbiter.state = .awaiting l timer →
      (s.arbiter.consecutiveLapses + 1 < s.arbiter.lapseLimit → exec .takeTimerExpiry s =
        .next { s with arbiter := { s.arbiter with
          state := .idle
          consecutiveLapses := s.arbiter.consecutiveLapses + 1
          totalLapses := satInc s.arbiter.totalLapses } }) ∧
      (s.arbiter.lapseLimit ≤ s.arbiter.consecutiveLapses + 1 → exec .takeTimerExpiry s =
        .next ({ s with arbiter := { s.arbiter with
          state := .quiescent
          consecutiveLapses := s.arbiter.consecutiveLapses + 1
          totalLapses := satInc s.arbiter.totalLapses } }.alerted
            (.quiescent (s.arbiter.consecutiveLapses + 1) (satInc s.arbiter.totalLapses) l)))) ∧
    ((∀ l timer, s.arbiter.state ≠ .awaiting l timer) → exec .takeTimerExpiry s = .next s)

/-! ## The classifier -/

/-- LOAD_SELECTOR (R51, R52, R72, R200): an entry given by its seven bytes is written to the shadow bank with its hit count
0; written as INVALID it takes cleared form; the active bank is untouched. -/
def Obligations.SelectorsAreLoaded : Prop :=
  ∀ (s : State) (sequence : Byte) (i : EntryIx), s.Admits sequence →
    (∀ e : Selector, e.valid = true → e.Good = true →
      exec (.loadSelector sequence (indexByte i :: e.bytes)) s =
        .next ({ s.heard with
          classifier := s.classifier.withBank s.classifier.active.other
            (update (s.classifier.bank s.classifier.active.other) i fun _ => ⟨e, 0⟩) }.replied
          sequence 0x20 .ok ([s.classifier.active.other.code] ++ word s.classifier.generation))) ∧
    (∀ b0 ports tag low high first second : Byte, b0.getLsbD 7 = false →
      exec (.loadSelector sequence [indexByte i, b0, ports, tag, low, high, first, second]) s =
        .next ({ s.heard with
          classifier := s.classifier.withBank s.classifier.active.other
            (update (s.classifier.bank s.classifier.active.other) i fun _ =>
              ⟨⟨false, false, 0, none, 0, 255, .discard⟩, 0⟩) }.replied
          sequence 0x20 .ok ([s.classifier.active.other.code] ++ word s.classifier.generation)))

/-- CLEAR_SHADOW and COPY_ACTIVE (R73, R74): every entry of the shadow bank in cleared form, or a copy of the active bank's,
every hit count of the shadow bank 0, and the active bank untouched. -/
def Obligations.ShadowIsClearedOrCopied : Prop :=
  ∀ (s : State) (sequence : Byte), s.Admits sequence →
    (∃ c : Classifier,
      (∀ i : EntryIx, (c.bank s.classifier.active.other)[i] = ⟨⟨false, false, 0, none, 0, 255, .discard⟩, 0⟩) ∧
      c.bank s.classifier.active = s.classifier.bank s.classifier.active ∧
      c = { s.classifier with bankA := c.bankA, bankB := c.bankB } ∧
      exec (.clearShadow sequence []) s =
        .next ({ s.heard with classifier := c }.replied sequence 0x21 .ok
          ([s.classifier.active.other.code] ++ word s.classifier.generation))) ∧
    (∃ c : Classifier,
      (∀ i : EntryIx, (c.bank s.classifier.active.other)[i] = ⟨(s.classifier.bank s.classifier.active)[i].entry, 0⟩) ∧
      c.bank s.classifier.active = s.classifier.bank s.classifier.active ∧
      c = { s.classifier with bankA := c.bankA, bankB := c.bankB } ∧
      exec (.copyActive sequence []) s =
        .next ({ s.heard with classifier := c }.replied sequence 0x22 .ok
          ([s.classifier.active.other.code] ++ word s.classifier.generation)))

/-- COMMIT_SELECTORS and READ_SELECTOR (R54, R55, R56, R75, R76, R200): the roles swap and the generation goes up; an entry
of either bank is reported, and its hit count cleared on request. -/
def Obligations.BanksSwapAndReport : Prop :=
  ∀ (s : State) (sequence : Byte), s.Admits sequence →
    exec (.commitSelectors sequence []) s =
      .next ({ s.heard with classifier := { s.classifier with
        active := match s.classifier.active with
          | .a => .b
          | .b => .a
        generation := s.classifier.generation + 1 } }.replied sequence 0x23 .ok
          (word (s.classifier.generation + 1) ++ [s.classifier.active.other.code])) ∧
    (∀ (which : Bank) (i : EntryIx) (clear : Bool),
      exec (.readSelector sequence [which.code, indexByte i, settingByte clear]) s =
        .next ({ s.heard with
          classifier :=
            if clear = true then
              s.classifier.withBank which (update (s.classifier.bank which) i fun x => ⟨x.entry, 0⟩)
            else s.classifier }.replied sequence 0x24 .ok
          ([which.code, if which = s.classifier.active then 1 else 0] ++ word s.classifier.generation ++
            (s.classifier.bank which)[i].entry.bytes ++ word (s.classifier.bank which)[i].hits)))

/-- Matching and the collected list (R53, R61): the matching entries of the active bank in rising index, each before the
last with its continue flag ON, and nothing behind a matching entry whose flag is OFF. -/
def Obligations.CollectedListIsAContinueChain : Prop :=
  ∀ (c : Classifier) (p : PortIx) (f : Frame),
    (∀ i : EntryIx, ((c.bank c.active)[i].entry.accepts p f = true ↔
      (c.bank c.active)[i].entry.valid = true ∧ (c.bank c.active)[i].entry.ports.getLsbD p = true ∧
      ((c.bank c.active)[i].entry.tag = none ∨ (c.bank c.active)[i].entry.tag = some f.tag) ∧
      (c.bank c.active)[i].entry.low.toNat ≤ f.data.toNat ∧ f.data.toNat ≤ (c.bank c.active)[i].entry.high.toNat)) ∧
    (c.collected p f).Pairwise (· < ·) ∧
    (∀ i : EntryIx, i ∈ c.collected p f ↔
      (c.bank c.active)[i].entry.accepts p f = true ∧
      ∀ j : EntryIx, j < i → (c.bank c.active)[j].entry.accepts p f = true →
        (c.bank c.active)[j].entry.goesOn = true)

/-- The grant (R58, R59): the first grantable port from the grant pointer on, wrapping from 7 to 0; where no port is
grantable the classifier waits. -/
def Obligations.GrantGoesRound : Prop :=
  ∀ s : State,
    (∀ p : PortIx, s.grantable p = true ↔
      s.ports[p].intake ≠ [] ∧ ¬ (s.classifier.deferred[p] = true ∧ 24 ≤ s.trunk.relays.length)) ∧
    (∀ p : PortIx, s.granted = some p ↔
      s.grantable p = true ∧ ∀ q : PortIx, s.grantable q = true →
        (p - s.classifier.grant).val ≤ (q - s.classifier.grant).val) ∧
    ((∀ p : PortIx, s.grantable p = false) → exec .classify s = .next s)

/-- A deferred classification (R58, R59, R60, R62): the frame needs a relay, the relay lane is full and the policy is HOLD;
the grant pointer moves, the mark is set, and nothing else changes. -/
def Obligations.FullLaneDefersTheFrame : Prop :=
  ∀ (s : State) (p : PortIx) (f : Frame) (rest : List Frame), s.rstnLow = false → s.granted = some p →
    s.ports[p].intake = f :: rest → 24 ≤ s.trunk.relays.length → s.ports[p].config.overflow = .hold →
    ((∃ i ∈ s.classifier.collected p f, (s.classifier.bank s.classifier.active)[i].entry.action = .forward) ∨
      (s.classifier.collected p f = [] ∧ s.ports[p].config.disposition = .forward)) →
      exec .classify s =
        .next { s with classifier := { s.classifier with
          grant := p + 1, deferred := update s.classifier.deferred p fun _ => true } }

/-- A classification that goes ahead, whatever its collected list (R55 to R58, R60, R62 to R65, R67, R68): the head frame
leaves its intake, the mark is cleared, the pointer moves; each entry of the list counts one hit and no other does; one
RELAY at most joins the lane, with the index of the first FORWARD, or is counted as dropped; and what no action can touch
is as before. -/
def Obligations.ClassificationActsOnce : Prop :=
  ∀ (s : State) (p : PortIx) (f : Frame) (rest : List Frame), s.rstnLow = false → s.granted = some p →
    s.ports[p].intake = f :: rest →
    (let bank := s.classifier.bank s.classifier.active
     let list := s.classifier.collected p f
     let first := list.find? fun i => bank[i].entry.action == .forward
     let relayed := first.isSome || (list.isEmpty && s.ports[p].config.disposition == .forward)
     (relayed = true → 24 ≤ s.trunk.relays.length → s.ports[p].config.overflow = .drop) →
      ∃ t : State, exec .classify s = .next t ∧
        t.ports[p].intake = rest ∧ t.classifier.deferred = update s.classifier.deferred p (fun _ => false) ∧
        t.classifier.grant = p + 1 ∧ t.classifier.active = s.classifier.active ∧
        t.classifier.generation = s.classifier.generation ∧
        t.classifier.bank s.classifier.active.other = s.classifier.bank s.classifier.active.other ∧
        (∀ i : EntryIx, (t.classifier.bank s.classifier.active)[i] =
          ⟨bank[i].entry, if i ∈ list then satInc bank[i].hits else bank[i].hits⟩) ∧
        t.trunk = { s.trunk with relays :=
          if relayed = true ∧ s.trunk.relays.length < 24 then s.trunk.relays ++ [⟨p, f.tag, f.data, f.time, first⟩]
          else s.trunk.relays } ∧
        t.ports[p].stats.relayDrops =
          (if relayed = true ∧ 24 ≤ s.trunk.relays.length then satInc s.ports[p].stats.relayDrops
            else s.ports[p].stats.relayDrops) ∧
        (∀ q : PortIx, q ≠ p → t.ports[q] = s.ports[q]) ∧
        t.arbiter = { s.arbiter with levels := t.arbiter.levels } ∧
        (∀ l : LevelIx, t.arbiter.levels[l].masked = s.arbiter.levels[l].masked ∧
          t.arbiter.levels[l].autoDone = s.arbiter.levels[l].autoDone) ∧
        t.patterns = s.patterns ∧ t.memory = s.memory ∧ t.timer = s.timer ∧ t.rstnLow = s.rstnLow ∧
        t.freeReads = s.freeReads)

/-- The actions of a collected list of any length, performed in list order (R63): what each does to the levels, the tallies,
the outputs and its port, on what the one before it left (R66, R69 to R71, R84, R97, R144, R146), so that two ASSERTs
count twice and a second TALLY step sees the first; and the port once its head frame has left: BACKPRESSURE withdrawn and
the silence timer started in full where the fill falls to 2 (R65, R136, R142), a relay without room counted (R68). -/
def Obligations.ActionsReachTheirOwners : Prop :=
  ∀ (s : State) (p : PortIx) (f : Frame) (rest : List Frame), s.rstnLow = false → s.granted = some p →
    s.ports[p].intake = f :: rest → PortInv s.ports[p] →
    (let action (i : EntryIx) : Action := (s.classifier.bank s.classifier.active)[i].entry.action
     let list := s.classifier.collected p f
     let relayed := (list.any fun i => action i == .forward) ||
       (list.isEmpty && s.ports[p].config.disposition == .forward)
     let acted := list.foldl (fun t i => t.acted p f i (action i)) s
     (relayed = true → 24 ≤ s.trunk.relays.length → s.ports[p].config.overflow = .drop) →
      ∃ t : State, exec .classify s = .next t ∧
        t.arbiter = acted.arbiter ∧ t.tallies = acted.tallies ∧ t.outputs = acted.outputs ∧
        t.ports = update acted.ports p fun pt : Port =>
          { pt.headGone with stats :=
            if relayed = true ∧ 24 ≤ s.trunk.relays.length then
              { pt.stats with relayDrops := satInc pt.stats.relayDrops }
            else pt.stats })

/-! ## Tallies and signals -/

/-- A step of a tally (R81 to R85): the value saturates and the step is counted; each arm is cleared by its crossing,
re-armed by the hysteresis and left alone otherwise; one step makes one crossing at most. -/
def Obligations.TalliesStepAndCross : Prop :=
  ∀ (t : Tally) (amount : Int), t.Good = true → -127 ≤ amount → amount ≤ 127 →
    (t.step amount).value =
      (if 32767 < t.value + amount then 32767 else if t.value + amount < -32768 then -32768 else t.value + amount) ∧
    (t.step amount).steps.toNat = min 65535 (t.steps.toNat + 1) ∧
    (t.step amount).upper = t.upper ∧ (t.step amount).lower = t.lower ∧
    (t.step amount).hysteresis = t.hysteresis ∧ (t.step amount).target = t.target ∧
    (∀ u, t.upper = some u → t.upperArm = true → u ≤ (t.step amount).value →
      t.crossed amount = [1] ∧ (t.step amount).upperArm = false) ∧
    (∀ u, t.upper = some u → t.upperArm = true → (t.step amount).value < u → (t.step amount).upperArm = true) ∧
    (∀ u, t.upper = some u → t.upperArm = false →
      ((t.step amount).upperArm = true ↔ (t.step amount).value ≤ u - t.hysteresis)) ∧
    (∀ l, t.lower = some l → t.lowerArm = true → (t.step amount).value ≤ l →
      t.crossed amount = [2] ∧ (t.step amount).lowerArm = false) ∧
    (∀ l, t.lower = some l → t.lowerArm = true → l < (t.step amount).value → (t.step amount).lowerArm = true) ∧
    (∀ l, t.lower = some l → t.lowerArm = false →
      ((t.step amount).lowerArm = true ↔ l + t.hysteresis ≤ (t.step amount).value)) ∧
    (t.upper = none → (t.step amount).upperArm = false) ∧ (t.lower = none → (t.step amount).lowerArm = false) ∧
    ((∀ u, t.upper = some u → t.upperArm = false ∨ (t.step amount).value < u) →
      (∀ l, t.lower = some l → t.lowerArm = false ∨ l < (t.step amount).value) → t.crossed amount = []) ∧
    (t.step amount).crossings.toNat = min 255 (t.crossings.toNat + (t.crossed amount).length) ∧
    (t.step amount).Good = true

/-- CONFIGURE_TALLY and READ_TALLY (R86, R87, R88, R199): the four settings and the re-evaluated arms; the report, and the
clear on request. That the arms are re-evaluated for a new target level alone, against Table 4-2, is log 31. -/
def Obligations.TalliesAreConfiguredAndRead : Prop :=
  ∀ (s : State) (sequence : Byte) (i : TallyIx), s.Admits sequence →
    (∀ (upper lower : Option Int) (h : Byte) (target : Option LevelIx),
      (∀ u, upper = some u → -32768 ≤ u ∧ u ≤ 32767) → (∀ l, lower = some l → -32768 ≤ l ∧ l ≤ 32767) →
      (∀ u l, upper = some u → lower = some l → l < u) → h ≠ 0 →
      exec (.configureTally sequence
          ([indexByte i, flag 0 upper.isSome ||| flag 1 lower.isSome ||| flag 2 target.isSome] ++
            signed16 (upper.getD 0) ++ signed16 (lower.getD 0) ++ [h, targetByte target])) s =
        .next ({ s.heard with tallies := update s.tallies i fun t =>
          { t with
            upper := upper
            lower := lower
            hysteresis := h.toNat
            target := target
            upperArm := upperArmAt upper h.toNat t.value
            lowerArm := lowerArmAt lower h.toNat t.value } }.replied sequence 0x28 .ok
              (signed16 s.tallies[i].value ++
                [flag 0 (upperArmAt upper h.toNat s.tallies[i].value) |||
                  flag 1 (lowerArmAt lower h.toNat s.tallies[i].value)]))) ∧
    (∀ clear : Bool,
      exec (.readTally sequence [indexByte i, settingByte clear]) s =
        .next ({ s.heard with tallies := if clear = true then update s.tallies i Tally.emptied else s.tallies }.replied
          sequence 0x29 .ok
            (signed16 s.tallies[i].value ++ word s.tallies[i].steps ++
              [s.tallies[i].crossings, flag 0 s.tallies[i].upper.isSome ||| flag 1 s.tallies[i].lower.isSome |||
                flag 2 s.tallies[i].target.isSome ||| flag 3 s.tallies[i].upperArm |||
                flag 4 s.tallies[i].lowerArm] ++
              signed16 (s.tallies[i].upper.getD 0) ++ signed16 (s.tallies[i].lower.getD 0) ++
              [BitVec.ofNat 8 s.tallies[i].hysteresis, targetByte s.tallies[i].target])))

/-- LOAD_PATTERN and START_SIGNAL (R92, R95, R96, R97, R201): every field of the pattern is written; a start of a loaded
pattern begins on an IDLE output and waits on a running one, superseding what waited; a start of an unloaded one is
refused UNLOADED. -/
def Obligations.PatternsAreLoadedAndStarted : Prop :=
  ∀ (s : State) (sequence : Byte) (i : PatternIx), s.Admits sequence →
    (∀ x : Pattern, x.Good = true →
      exec (.loadPattern sequence
          ([indexByte i] ++ word x.mark ++ word x.space ++ word (BitVec.ofNat 16 x.count) ++
            [x.tone.byte, settingByte x.longMark, optionalByte x.completion])) s =
        .next ({ s.heard with patterns := update s.patterns i fun _ => some x }.replied sequence 0x30 .ok [])) ∧
    (∀ o : OutputIx,
      (s.patterns[i] = none → exec (.startSignal sequence [indexByte o, indexByte i]) s =
        .next (s.heard.replied sequence 0x31 .unloaded [])) ∧
      (∀ x : Pattern, s.patterns[i] = some x →
        (s.outputs[o].running = none → exec (.startSignal sequence [indexByte o, indexByte i]) s =
          .next ({ s.heard with outputs := update s.outputs o fun y =>
            { y with
              running := some
                { copy := ⟨i, x⟩
                  phase := .mark
                  remaining := if x.longMark = true then 1 else x.count
                  timeLeft := if x.longMark = true then x.mark.toNat * x.count else x.mark.toNat } } }.replied
                  sequence 0x31 .ok [1, 0xFF])) ∧
        (∀ b : Burst, s.outputs[o].running = some b → exec (.startSignal sequence [indexByte o, indexByte i]) s =
          .next ({ s.heard with outputs := update s.outputs o fun y =>
            { y with
              waiting := some ⟨i, x⟩
              superseded := if y.waiting = none then y.superseded else satInc y.superseded } }.replied
                sequence 0x31 .ok [2, optionalByte (s.outputs[o].waiting.map Snapshot.index)]))))

/-- STOP_SIGNAL and READ_SIGNAL (R104, R105, Table 10-4). -/
def Obligations.SignalsAreStoppedAndRead : Prop :=
  ∀ (s : State) (sequence : Byte) (o : OutputIx), s.Admits sequence →
    exec (.stopSignal sequence [indexByte o]) s =
      .next ({ s.heard with outputs := update s.outputs o fun y => ⟨none, none, y.superseded, y.refused⟩ }.replied
        sequence 0x32 .ok
          [optionalByte (s.outputs[o].running.map fun b : Burst => b.copy.index),
            optionalByte (s.outputs[o].waiting.map Snapshot.index)]) ∧
    exec (.readSignal sequence [indexByte o]) s =
      .next (s.heard.replied sequence 0x33 .ok
        ([match s.outputs[o].running with
          | none => 0
          | some b => (match b.phase with
            | .mark => 1
            | .space => 2),
          optionalByte (s.outputs[o].running.map fun b : Burst => b.copy.index)] ++
        word (BitVec.ofNat 16 ((s.outputs[o].running.map Burst.remaining).getD 0)) ++
        [optionalByte (s.outputs[o].waiting.map Snapshot.index)] ++
        word s.outputs[o].superseded ++ word s.outputs[o].refused))

/-- PHASE_END (R93, R99 to R102): a mark before the last leads to a space, a space to the next mark; the last mark of a
counted burst asserts the completion level and ends the burst; a continuous burst goes on until, at the end of a space,
a snapshot waits. On an IDLE output nothing happens: log 3. And what the SIG pin carries (R103): it is low in IDLE and in
SPACE, and in MARK high or at the tone's frequency. -/
def Obligations.PhasesFollowOneAnother : Prop :=
  ∀ (s : State) (o : OutputIx), s.rstnLow = false →
    (s.outputs[o].running = none → exec (.phaseEnd o) s = .next s ∧ s.outputs[o].pin = .low) ∧
    (∀ b : Burst, s.outputs[o].running = some b →
      (b.phase = .space → s.outputs[o].pin = .low) ∧
      (b.phase = .mark → b.copy.pattern.tone = .steady → s.outputs[o].pin = .high) ∧
      (b.phase = .mark → b.copy.pattern.tone = .one → s.outputs[o].pin = .wave 2000) ∧
      (b.phase = .mark → b.copy.pattern.tone = .two → s.outputs[o].pin = .wave 2500) ∧
      (b.phase = .mark → b.copy.pattern.tone = .three → s.outputs[o].pin = .wave 4000)) ∧
    (∀ b : Burst, s.outputs[o].running = some b → b.Good = true →
      let begun : Option Burst := s.outputs[o].waiting.map fun w =>
        { copy := w
          phase := .mark
          remaining := if w.pattern.longMark = true then 1 else w.pattern.count
          timeLeft := if w.pattern.longMark = true then w.pattern.mark.toNat * w.pattern.count
            else w.pattern.mark.toNat }
      (b.phase = .mark → b.copy.pattern.longMark = false → b.copy.pattern.count = 0 ∨ 2 ≤ b.remaining →
        exec (.phaseEnd o) s =
          .next { s with outputs := update s.outputs o fun y =>
            { y with
              running := some
                { b with phase := .space, remaining := b.remaining - 1, timeLeft := b.copy.pattern.space.toNat } } }) ∧
      (b.phase = .mark → b.remaining = 1 →
        exec (.phaseEnd o) s =
          .next { s with
            arbiter := s.arbiter.assertedAt b.copy.pattern.completion (.signal o) (indexByte b.copy.index) s.timer
            outputs := update s.outputs o fun y => { y with running := begun, waiting := none } }) ∧
      (b.phase = .space → b.copy.pattern.count ≠ 0 ∨ s.outputs[o].waiting = none →
        exec (.phaseEnd o) s =
          .next { s with outputs := update s.outputs o fun y =>
            { y with running := some { b with phase := .mark, timeLeft := b.copy.pattern.mark.toNat } } }) ∧
      (b.phase = .space → b.copy.pattern.count = 0 → s.outputs[o].waiting ≠ none →
        exec (.phaseEnd o) s =
          .next { s with outputs := update s.outputs o fun y => { y with running := begun, waiting := none } }))

/-! ## Branch ports and lines -/

/-- CONFIGURE_PORT and READ_PORT (R126, R136, R151, R154, R199, Tables 10-3, 10-5): the configuration written, with what it
does to the silence timer and to an inbound frame; and the report, with the statistics cleared on request. What is
reported as hold reason while no reason stands is left open: log 9. The silence timer follows R151: log 11. -/
def Obligations.PortsAreConfiguredAndRead : Prop :=
  ∀ (s : State) (sequence : Byte) (p : PortIx), s.Admits sequence → PortInv s.ports[p] →
    (∀ c : PortConfig, c.silenceLimit = 0 ∨ 100 ≤ c.silenceLimit ∧ c.silenceLimit ≤ 60000 →
      exec (.configurePort sequence
          ([indexByte p, c.settings] ++ word (BitVec.ofNat 16 c.silenceLimit) ++
            [optionalByte c.presenceLevel, optionalByte c.faultLevel])) s =
        .next ({ s.heard with ports := update s.ports p fun pt : Port =>
          { pt with
            config := c
            silenceTimer :=
              if c.silenceLimit = 0 then none
              else if pt.config.silenceLimit ≠ 0 then pt.silenceTimer
              else if pt.presence = Presence.present ∧ pt.line.reasons.backpressure = false ∧
                  pt.line.attempting = false then some c.silenceLimit
              else none }.preempted }.replied sequence 0x38 .ok [])) ∧
    (∀ clear : Bool, ∃ line : Byte,
      line.extractLsb' 0 2 = s.ports[p].line.state.code ∧ line.extractLsb' 2 2 = 0 ∧ line.extractLsb' 6 2 = 0 ∧
      (∀ r, s.ports[p].line.state = LineState.held → s.ports[p].line.reasons.first = some r →
        line.extractLsb' 4 2 = r.code) ∧
      (s.ports[p].line.state ≠ LineState.held → line.extractLsb' 4 2 = 0) ∧
      exec (.readPort sequence [indexByte p, settingByte clear]) s =
        .next ({ s.heard with
          ports :=
            if clear = true then update s.ports p fun pt : Port => { pt with stats := ⟨0, 0, 0, 0, 0, 0, 0, 0⟩ }
            else s.ports
          freeReads :=
            if s.ports[p].line.state = LineState.held ∧ s.ports[p].line.reasons.any = false then s.freeReads + 1
            else s.freeReads }.replied sequence 0x3A .ok
          ([s.ports[p].presence.code, line, if s.ports[p].endpointType = none then 0 else 1,
            s.ports[p].endpointType.getD 0, BitVec.ofNat 8 s.ports[p].intake.length,
            BitVec.ofNat 8 s.ports[p].queue.length, BitVec.ofNat 8 s.ports[p].attempts,
            BitVec.ofNat 8 s.ports[p].lineErrorRun, BitVec.ofNat 8 s.ports[p].sendFailureRun] ++
          word s.ports[p].stats.framesReceived ++ word s.ports[p].stats.lineErrors ++
          word s.ports[p].stats.preemptedInbound ++ word s.ports[p].stats.framesLost ++
          word s.ports[p].stats.relayDrops ++ word s.ports[p].stats.framesSent ++
          word s.ports[p].stats.sendFailures ++ word s.ports[p].stats.answersLost)))

/-- PORT_CONTROL ENABLE and DISABLE (R117, R123, R132, R139, R145, R152): the new presence state with all that goes with it,
the RESULTs of the entries that leave, and nothing where the port is already there. An attempt that DISABLE cuts leaves the
line HELD with the 100 µs of the cut to pass, and ENABLE releases it at once: log 32. -/
def Obligations.PortsAreEnabledAndDisabled : Prop :=
  ∀ (s : State) (sequence : Byte) (p : PortIx), s.Admits sequence → PortInv s.ports[p] →
    (s.ports[p].presence = .disabled ∨ s.ports[p].presence = .faulted →
      exec (.portControlEnable sequence (indexByte p) []) s =
        .next ({ s.heard with ports := update s.ports p fun pt : Port =>
          { pt with
            presence := .absent
            endpointType := none
            probeDue := true
            probeTimer := some 250
            lineErrorRun := 0
            sendFailureRun := 0
            line := { pt.line with
              activity := pt.line.activity.enabled
              reasons := { pt.line.reasons with disabled := false, faulted := false } } } }.replied
                sequence 0x39 .ok [1, 0])) ∧
    (s.ports[p].presence = .absent ∨ s.ports[p].presence = .present →
      exec (.portControlEnable sequence (indexByte p) []) s =
        .next (s.heard.replied sequence 0x39 .ok [s.ports[p].presence.code, 0])) ∧
    (s.ports[p].presence ≠ .disabled →
      exec (.portControlDisable sequence (indexByte p) []) s =
        .next ({ s.heard with
          ports := update s.ports p fun pt : Port =>
            { pt with
              presence := .disabled
              endpointType := none
              probeDue := false
              probeTimer := none
              silenceTimer := none
              intake := []
              queue := []
              attempts := 0
              stats := { pt.stats with
                framesLost := BitVec.ofNat 16 (min 65535 (pt.stats.framesLost.toNat + pt.intake.length))
                preemptedInbound :=
                  if pt.line.beforeCommit = true then satInc pt.stats.preemptedInbound
                  else pt.stats.preemptedInbound }
              line := ⟨pt.line.activity.disabled, ⟨true, false, false, false⟩, none⟩ }
          trunk := s.heard.trunk.resulted p .portDisabled s.ports[p].attempts s.ports[p].queue
          classifier := { s.classifier with
            deferred := update s.classifier.deferred p fun _ => false } }.replied sequence 0x39 .ok [0, 0])) ∧
    (s.ports[p].presence = .disabled →
      exec (.portControlDisable sequence (indexByte p) []) s = .next (s.heard.replied sequence 0x39 .ok [0, 0]))

/-- PORT_CONTROL PROBE_NOW and FLUSH_TX (R126, R148, R153, R170): the mark in ABSENT and NOT_READY elsewhere; and every entry
but one in flight leaves FLUSHED. -/
def Obligations.PortsAreProbedAndFlushed : Prop :=
  ∀ (s : State) (sequence : Byte) (p : PortIx), s.Admits sequence → PortInv s.ports[p] →
    (s.ports[p].presence = .absent →
      exec (.portControlProbeNow sequence (indexByte p) []) s =
        .next ({ s.heard with ports := update s.ports p fun pt : Port => { pt with probeDue := true } }.replied
          sequence 0x39 .ok [1, 0])) ∧
    (s.ports[p].presence ≠ .absent →
      exec (.portControlProbeNow sequence (indexByte p) []) s =
        .next (s.heard.replied sequence 0x39 .notReady [])) ∧
    (s.ports[p].attempts = 0 →
      exec (.portControlFlushTx sequence (indexByte p) []) s =
        .next ({ s.heard with
          ports := update s.ports p fun pt : Port =>
            if pt.queue = [] then pt
            else { pt with
              queue := []
              line := ⟨pt.line.activity, { pt.line.reasons with preempt := false }, none⟩ }
          trunk := s.heard.trunk.resulted p .flushed 0 s.ports[p].queue }.replied sequence 0x39 .ok
            [s.ports[p].presence.code, BitVec.ofNat 8 s.ports[p].queue.length])) ∧
    (0 < s.ports[p].attempts →
      exec (.portControlFlushTx sequence (indexByte p) []) s =
        .next ({ s.heard with
          ports := update s.ports p fun pt : Port => { pt with queue := pt.queue.take 1 }
          trunk := s.heard.trunk.resulted p .flushed 0 s.ports[p].queue.tail }.replied sequence 0x39 .ok
            [s.ports[p].presence.code, BitVec.ofNat 8 (s.ports[p].queue.length - 1)]))

/-- SEND (R126, R143 to R146, R170, R183, R195): the checks in their order, and what an accepted frame does: it joins the
queue, its reservation is made, and at the head it is handed to the line. -/
def Obligations.SendsAreCheckedAndQueued : Prop :=
  ∀ (s : State) (sequence : Byte), s.Admits sequence →
    (∀ port tag data confirm : Byte, 7 < port.toNat ∨ 6 < tag.toNat ∨ 1 < confirm.toNat →
      exec (.send sequence port tag data confirm) s = .next (s.heard.repliedToSend sequence .range [])) ∧
    (∀ (p : PortIx) (tag : Tag) (data : Byte) (confirm : Bool), tag ≠ 7 → PortInv s.ports[p] →
      exec (.send sequence (indexByte p) (tag.setWidth 8) data (settingByte confirm)) s =
        .next (
          if s.ports[p].presence ≠ .present then s.heard.repliedToSend sequence .notReady []
          else if s.ports[p].queue.length = 4 then s.heard.repliedToSend sequence .queueFull []
          else if confirm = true ∧ 14 < s.trunk.control.length + s.trunk.reservations then
            s.heard.repliedToSend sequence .noReserve []
          else { s.heard with
            ports := update s.ports p fun pt : Port =>
              if pt.queue = [] then
                { pt with
                  queue := [TxEntry.mk tag data (if confirm = true then some sequence else none)]
                  line := { pt.line with ready := some ⟨false, tag, data⟩ } }.preempted
              else { pt with queue := pt.queue ++ [TxEntry.mk tag data (if confirm = true then some sequence else none)] }
            trunk := { s.heard.trunk with
              reservations := if confirm = true then s.trunk.reservations + 1 else s.trunk.reservations } }.repliedToSend
                sequence .ok [BitVec.ofNat 8 (s.ports[p].queue.length + 1)]))

/-- The rows of the wires (R108, R110, R113, R114, R120, R121, R123, R126): where a frame begins, what each edge does, where a
request-to-send begins and what it counts, the start bit, and the end of the 100 µs of a cut, in OUTBOUND or in HELD
(log 32). An edge that begins a frame may come as either row: log 6. A row whose condition does not hold changes nothing: log 3. -/
def Obligations.WiresAreFollowed : Prop :=
  ∀ (s : State) (p : PortIx), s.rstnLow = false → PortInv s.ports[p] →
    let doing (a : Activity) : State :=
      { s with ports := update s.ports p fun pt : Port => { pt with line := { pt.line with activity := a } } }
    (s.ports[p].line.state = .quiet → exec (.inboundFrameBegins p) s =
      .next { s with ports := update s.ports p fun pt : Port =>
        { pt with line := { pt.line with activity := .inbound [] true false } }.preempted }) ∧
    (s.ports[p].line.state ≠ .quiet → exec (.inboundFrameBegins p) s = .next s) ∧
    (∀ (edge : Edge) (high : Bool), exec (.clockGiven p edge high) s =
      match s.ports[p].line.activity, edge with
      | .none, .falling => exec (.inboundFrameBegins p) s
      | .inbound bits true gone, .rising => .next (doing (.inbound (bits ++ [high]) false gone))
      | .inbound bits false gone, .falling =>
        .next (if bits.length = 15 then s else doing (.inbound bits true gone))
      | .awaitClock, .falling => .next (doing (.outbound 0 true false))
      | .outbound given true _, .rising =>
        .next (doing (.outbound (given + 1) false (decide (given + 1 = 15) && !high)))
      | .outbound given false answered, .falling =>
        .next (if given = 15 then s else doing (.outbound given true answered))
      | _, _ => .next s) ∧
    (∀ (r : Ready) (fromHeld clkHigh dataHigh : Bool), s.ports[p].line.ready = some r →
      s.ports[p].line.activity = .none →
      (fromHeld = false ∧ s.ports[p].line.reasons.any = false ∧ clkHigh = true ∧ dataHigh = true) ∨
        (fromHeld = true ∧ s.ports[p].line.reasons.any = true ∧ s.ports[p].line.reasons.disabled = false ∧
          s.ports[p].line.reasons.faulted = false ∧ r.probe = false) →
      exec (.requestToSend p clkHigh dataHigh) s =
        .next { s with ports := update s.ports p fun pt : Port =>
          { pt with
            line := { pt.line with activity := .holdPhase fromHeld }
            silenceTimer := none
            attempts := if r.probe = true then pt.attempts else pt.attempts + 1 } }) ∧
    (∀ clkHigh dataHigh : Bool,
      s.ports[p].line.ready = none ∨ s.ports[p].line.activity ≠ .none ∨ s.ports[p].line.reasons.disabled = true ∨
        s.ports[p].line.reasons.faulted = true ∨
        (s.ports[p].line.reasons.any = false ∧ (clkHigh = false ∨ dataHigh = false)) ∨
        (s.ports[p].line.reasons.any = true ∧ s.ports[p].line.ready.any Ready.probe = true) →
      exec (.requestToSend p clkHigh dataHigh) s = .next s) ∧
    (∀ fromHeld : Bool, s.ports[p].line.activity = .holdPhase fromHeld →
      exec (.startBit p) s =
        .next { s with ports := update s.ports p fun pt : Port =>
          { pt with line := { pt.line with
            activity := .awaitClock, reasons := { pt.line.reasons with preempt := false } } } }) ∧
    ((∀ fromHeld : Bool, s.ports[p].line.activity ≠ .holdPhase fromHeld) → exec (.startBit p) s = .next s) ∧
    (s.ports[p].line.activity = .closing → exec (.cutEnd p) s = .next (doing .none)) ∧
    (s.ports[p].line.activity ≠ .closing → exec (.cutEnd p) s = .next s)

/-- A whole frame on the wires, clock by clock (R108 to R110, R114, R121, Table 10-10). Inbound: the fifteen clocks of a frame,
given to a QUIET line, are all sampled, and the part then ACKs. Outbound: in the low phase of clock k + 1 the part pulls
DATA low exactly for a bit 0 of the frame it sends, DATA is released in the acknowledge slot, and the answer is what DATA
reads at the rising edge of clock 15. That CLOCK_GIVEN begins the inbound frame is log 6. -/
def Obligations.FramesCrossTheWires : Prop :=
  ∀ (s : State) (p : PortIx), s.rstnLow = false →
    (∀ (tag : Tag) (data : Byte) (level : Bool), s.ports[p].line.state = .quiet →
      s.ports[p].config.precedence = .yield ∨ s.ports[p].line.ready = none →
      ∃ t : State, runAll (clocked p (frameBits tag data ++ [level])) s = .next t ∧
        t = { s with ports := update s.ports p fun pt : Port =>
          { pt with line := { pt.line with
            activity := .inbound (frameBits tag data ++ [level]) false false } } } ∧
        t.ports[p].line.pullsData = true ∧ t.ports[p].line.pullsClk = false) ∧
    (∀ (r : Ready) (levels : List Bool) (level : Bool), s.ports[p].line.activity = .awaitClock →
      s.ports[p].line.ready = some r →
      (levels.length ≤ 14 → ∃ t : State,
        runAll (clocked p levels ++ [.clockGiven p .falling level]) s = .next t ∧
        t = { s with ports := update s.ports p fun pt : Port =>
          { pt with line := { pt.line with activity := .outbound levels.length true false } } } ∧
        t.ports[p].line.pullsData = decide ((frameBits r.tag r.data)[levels.length]? = some false) ∧
        t.ports[p].line.pullsClk = false) ∧
      (levels.length = 14 →
        runAll (clocked p (levels ++ [level])) s =
          .next { s with ports := update s.ports p fun pt : Port =>
            { pt with line := { pt.line with activity := .outbound 15 false (!level) } } }))

/-- INBOUND_FRAME of a good frame (R113, R115, R119, R133, R135, R136, R140 to R142): by presence state, what becomes of the
endpoint type, the intake, the runs, the timers and the presence level; and a dropped frame does nothing. -/
def Obligations.GoodFramesReachTheirPort : Prop :=
  ∀ (s : State) (p : PortIx) (tag : Tag) (data : Byte) (level : Bool), s.rstnLow = false → PortInv s.ports[p] →
    let ended (pt : Port) : Port := { pt with line := { pt.line with activity := .none } }
    let counted (pt : Port) : Port :=
      { ended pt with stats := { pt.stats with framesReceived := satInc pt.stats.framesReceived } }
    let kept (pt : Port) : Port :=
      if tag = 7 then { pt with endpointType := some data } else pt.receives ⟨tag, data, s.timer⟩
    (s.ports[p].line.activity = .inbound (frameBits tag data ++ [level]) false false →
      (s.ports[p].presence = .disabled → exec (.inboundFrame p) s =
        .next { s with ports := update s.ports p fun pt : Port =>
          if tag = 7 then counted pt
          else { counted pt with stats := { (counted pt).stats with framesLost := satInc pt.stats.framesLost } } }) ∧
      (s.ports[p].presence = .absent → exec (.inboundFrame p) s =
        .next { s with
          ports := update s.ports p fun pt : Port => kept (counted pt).arrives
          arbiter := s.arbiter.assertedAt s.ports[p].config.presenceLevel (.presence p) 1 s.timer }) ∧
      (s.ports[p].presence = .present → exec (.inboundFrame p) s =
        .next { s with
          ports := update s.ports p fun pt : Port =>
            kept { counted pt with lineErrorRun := 0, silenceTimer := pt.fullSilence } }) ∧
      (s.ports[p].presence = .faulted → exec (.inboundFrame p) s =
        .next { s with ports := update s.ports p fun pt : Port => kept (counted pt) })) ∧
    (∀ bits : List Bool, s.ports[p].line.activity = .inbound bits false true → bits.length = 15 →
      exec (.inboundFrame p) s = .next { s with ports := update s.ports p ended })

/-- INBOUND_FRAME of a bad frame, and FRAME_BROKEN (R109, R113, R115, R118, R119, R138 to R140): one line error, counted in every
state; in ABSENT and PRESENT the run goes up and at 8 the port faults, its entries leave, and its fault level is asserted;
a dropped frame does nothing. -/
def Obligations.LineErrorsAreCounted : Prop :=
  ∀ (s : State) (p : PortIx) (i : Instr) (bits : List Bool) (low gone : Bool), s.rstnLow = false →
    PortInv s.ports[p] → s.ports[p].line.activity = .inbound bits low gone →
    (i = .inboundFrame p ∧ bits.length = 15 ∧ ∀ tag data level, bits ≠ frameBits tag data ++ [level]) ∨
      (i = .frameBroken p ∧ bits.length < 15) →
    let ended (pt : Port) : Port := { pt with line := { pt.line with activity := .none } }
    let counted (pt : Port) : Port :=
      { ended pt with stats := { pt.stats with lineErrors := satInc pt.stats.lineErrors } }
    let run (pt : Port) : Port := { counted pt with lineErrorRun := pt.lineErrorRun + 1 }
    (gone = true → exec i s = .next { s with ports := update s.ports p ended }) ∧
    (gone = false → s.ports[p].presence = .disabled ∨ s.ports[p].presence = .faulted →
      exec i s = .next { s with ports := update s.ports p counted }) ∧
    (gone = false → s.ports[p].presence = .absent ∨ s.ports[p].presence = .present →
      (s.ports[p].lineErrorRun < 7 → exec i s = .next { s with ports := update s.ports p run }) ∧
      (s.ports[p].lineErrorRun = 7 → exec i s =
        .next { s with
          ports := update s.ports p fun pt : Port => (run pt).faults
          trunk := s.trunk.resulted p .portFaulted s.ports[p].attempts s.ports[p].queue
          arbiter := s.arbiter.assertedAt s.ports[p].config.faultLevel (.portFault p) 1 s.timer }))

/-- ATTEMPT_OUTCOME and NO_RESPONSE (R113, R121, R122, R133, R134, R136, R138, R139, R146 to R148): a probe that is answered brings
the port to PRESENT; an entry leaves DELIVERED, is handed over again, or leaves at its third attempt with its failure;
the fourth failure in a row faults the port. -/
def Obligations.AttemptsEnd : Prop :=
  ∀ (s : State) (p : PortIx) (i : Instr) (r : Ready) (answered : Bool) (failure : SendOutcome), s.rstnLow = false →
    PortInv s.ports[p] → s.ports[p].line.ready = some r → AttemptEnding s p i answered failure →
    let ended (pt : Port) : Port :=
      { pt with line := ⟨.none, pt.line.reasons, none⟩, silenceTimer := pt.fullSilence }
    (r.probe = true → answered = true → exec i s =
      .next { s with
        ports := update s.ports p fun pt : Port => (ended pt).arrives
        arbiter := s.arbiter.assertedAt s.ports[p].config.presenceLevel (.presence p) 1 s.timer }) ∧
    (r.probe = true → answered = false → exec i s = .next { s with ports := update s.ports p ended }) ∧
    (∀ (e : TxEntry) (rest : List TxEntry), r.probe = false → s.ports[p].queue = e :: rest →
      let next (pt : Port) (queue : List TxEntry) : Port :=
        { ended pt with
          queue := queue
          attempts := 0
          line := ⟨.none, pt.line.reasons, readyHead queue⟩ }
      (answered = true → exec i s =
        .next { s with
          ports := update s.ports p fun pt : Port =>
            { next pt rest with
              sendFailureRun := 0
              stats := { pt.stats with framesSent := satInc pt.stats.framesSent } }
          trunk := s.trunk.resulted p .delivered s.ports[p].attempts [e] }) ∧
      (answered = false → s.ports[p].attempts < 3 → exec i s =
        .next { s with ports := update s.ports p fun pt : Port =>
          { next pt (e :: rest) with attempts := pt.attempts } }) ∧
      (answered = false → s.ports[p].attempts = 3 →
        let failed (pt : Port) : Port :=
          { next pt rest with
            sendFailureRun := pt.sendFailureRun + 1
            stats := { pt.stats with sendFailures := satInc pt.stats.sendFailures } }
        (s.ports[p].sendFailureRun < 3 → exec i s =
          .next { s with
            ports := update s.ports p failed
            trunk := s.trunk.resulted p failure 3 [e] }) ∧
        (s.ports[p].sendFailureRun = 3 → exec i s =
          .next { s with
            ports := update s.ports p fun pt : Port => (failed pt).faults
            trunk := (s.trunk.resulted p failure 3 [e]).resulted p .portFaulted 0 rest
            arbiter := s.arbiter.assertedAt s.ports[p].config.faultLevel (.portFault p) 2 s.timer })))

/-- PROBE_TIMER_EXPIRY, PROBE and SILENCE_EXPIRY (R134, R137, R139): the mark, the hand-over of the probe, and the port that
goes silent: its entries leave PORT_ABSENT, its type goes, its presence level is asserted. Where no timer runs, or the
port does not hand its probe over, a row changes nothing: log 3. -/
def Obligations.PortsProbeAndGoSilent : Prop :=
  ∀ (s : State) (p : PortIx), s.rstnLow = false →
    (s.ports[p].probeTimer ≠ none → exec (.probeTimerExpiry p) s =
      .next { s with ports := update s.ports p fun pt : Port => { pt with probeDue := true, probeTimer := some 250 } }) ∧
    (s.ports[p].probeTimer = none → exec (.probeTimerExpiry p) s = .next s) ∧
    (s.ports[p].presence = .absent → s.ports[p].probeDue = true → s.ports[p].line.state = .quiet →
      s.ports[p].line.ready = none → exec (.probe p true true) s =
        .next { s with ports := update s.ports p fun pt : Port =>
          { pt with probeDue := false, line := { pt.line with ready := some ⟨true, 7, 0⟩ } } }) ∧
    (∀ clkHigh dataHigh : Bool, s.ports[p].probeDue = false ∨ s.ports[p].line.state ≠ .quiet ∨ clkHigh = false ∨
      dataHigh = false → exec (.probe p clkHigh dataHigh) s = .next s) ∧
    (s.ports[p].presence = .present → s.ports[p].silenceTimer ≠ none → exec (.silenceExpiry p) s =
      .next { s with
        ports := update s.ports p fun pt : Port =>
          { pt with
            presence := .absent
            endpointType := none
            queue := []
            attempts := 0
            silenceTimer := none
            probeDue := true
            probeTimer := some 250
            line := ⟨pt.line.activity, { pt.line.reasons with preempt := false }, none⟩ }
        trunk := s.trunk.resulted p .portAbsent s.ports[p].attempts s.ports[p].queue
        arbiter := s.arbiter.assertedAt s.ports[p].config.presenceLevel (.presence p) 2 s.timer }) ∧
    (s.ports[p].silenceTimer = none → exec (.silenceExpiry p) s = .next s)

/-! ## The transmitter -/

/-- TRANSMIT_BEGIN and TRANSMIT_END (R27, R30, R31, R158, R166 to R169, R171): the lane that the starvation guard chooses, the
number and the characters the message takes; an offer that waited for room follows the freeing of a full lane in the same
step (log 17); and at the last byte the pending rate and the report of a NOTICE. TRANSMIT_BEGIN with nothing to send or
while sending, and TRANSMIT_END with nothing in transmission, change nothing: log 3. And what stands on the wire: the
fields, codes and length of every upstream payload (R196 to R198, Tables 10-1 to 10-3), and TTX, ten bit times to a
character, the characters back to back, at mark between messages (R157). -/
def Obligations.MessagesAreSent : Prop :=
  ∀ s : State,
    (∀ (e : ControlEntry) (rest : List ControlEntry), s.rstnLow = false → s.trunk.sending = none →
      s.trunk.control = e :: rest → s.trunk.relays = [] ∨ s.trunk.controlRun < 8 →
      let begun : State := { s with trunk := { s.trunk with
        control := rest
        sending := some ⟨.control e.message, s.trunk.sequence, s.trunk.rate, e.pendingRate,
          TrunkMessage.characters ⟨e.message.type, s.trunk.sequence, e.message.payload⟩⟩
        sequence := s.trunk.sequence + 1
        controlRun := if s.trunk.relays = [] then 0 else s.trunk.controlRun + 1 } }
      (s.HasRoom → exec .transmitBegin s = .next begun) ∧
      (¬ s.HasRoom → exec .transmitBegin s = exec .offer begun)) ∧
    (∀ (r : Relay) (rest : List Relay), s.rstnLow = false → s.trunk.sending = none → s.trunk.relays = r :: rest →
      s.trunk.control = [] ∨ 8 ≤ s.trunk.controlRun →
      exec .transmitBegin s =
        .next { s with trunk := { s.trunk with
          relays := rest
          sending := some ⟨.relay r, s.trunk.sequence, s.trunk.rate, none,
            TrunkMessage.characters ⟨0x45, s.trunk.sequence, r.payload⟩⟩
          sequence := s.trunk.sequence + 1
          controlRun := 0 } }) ∧
    (s.trunk.sending ≠ none ∨ (s.trunk.control = [] ∧ s.trunk.relays = []) → exec .transmitBegin s = .next s) ∧
    (∀ x : Transmission, s.trunk.sending = some x → exec .transmitEnd s =
      .next { s with
        trunk := { s.trunk with sending := none, rate := x.pendingRate.getD s.trunk.rate }
        arbiter :=
          match x.message, s.arbiter.state with
          | .control (.notice number _ _ _), .presenting l =>
            if number = s.arbiter.number then { s.arbiter with state := .awaiting l s.arbiter.takeLimit }
            else s.arbiter
          | _, _ => s.arbiter }) ∧
    (s.trunk.sending = none → exec .transmitEnd s = .next s ∧ ∀ n, s.trunk.ttx n = true) ∧
    (∀ x : Transmission, s.trunk.sending = some x →
      (∀ (k : Nat) (c : Byte), x.characters[k]? = some c →
        s.trunk.ttx (10 * k) = false ∧ (∀ b, b < 8 → s.trunk.ttx (10 * k + 1 + b) = c.getLsbD b) ∧
        s.trunk.ttx (10 * k + 9) = true) ∧
      (∀ n, 10 * x.characters.length ≤ n → s.trunk.ttx n = true)) ∧
    (∀ m : Upstream, (m.type, m.payload) = m.layout ∧ m.payload.length = m.payloadLength) ∧
    [SourceKind.selector, .tally, .presence, .portFault, .signal, .host].map SourceKind.code = [1, 2, 3, 4, 5, 6] ∧
    [Status.ok, .unknown, .badLength, .range, .notReady, .queueFull, .noReserve, .unloaded].map Status.code =
      [0, 1, 2, 3, 4, 5, 6, 7] ∧
    [SendOutcome.delivered, .failedNak, .failedSilent, .portAbsent, .portFaulted, .portDisabled, .flushed].map
      SendOutcome.code = [1, 2, 3, 4, 5, 6, 7] ∧
    [DoneRefusal.notInService, .noneInService].map DoneRefusal.code = [1, 2] ∧
    [StartCause.cold, .linkBreak].map StartCause.code = [1, 2] ∧
    [LinkRate.r9600, .r19200, .r38400, .r57600, .r115200, .r230400, .r460800, .r921600].map LinkRate.code =
      [0, 1, 2, 3, 4, 5, 6, 7]

/-! ## Invariants -/

/-- Every invariant below holds right after reset. -/
def Obligations.InvariantsHoldAtReset : Prop :=
  ArbiterInv State.reset.arbiter ∧ NoticeInv State.reset = true ∧ ClassifierInv State.reset.classifier ∧
  (∀ i : TallyIx, State.reset.tallies[i].Good = true) ∧ SignalInv State.reset ∧ PortsInv State.reset ∧
  DeferredInv State.reset ∧ LaneInv State.reset ∧ ReceiverInv State.reset

/-- Every step keeps the rules of the arbiter, the banks, the tallies and the signals (R1, R2, R13, R42, Table 2-1, R51, R52,
R80, R93): each level at most once in the stack, every record's count 1 to 255, the limits and lapse counts in range, an
offer being presented always with its NOTICE on its way, and every table entry one that the host can write. -/
def Obligations.TablesStayLegal : Prop :=
  ∀ s t : State, ArbiterInv s.arbiter → NoticeInv s = true → ClassifierInv s.classifier →
    (∀ i : TallyIx, s.tallies[i].Good = true) → SignalInv s → step s = .next t →
      ArbiterInv t.arbiter ∧ NoticeInv t = true ∧ ClassifierInv t.classifier ∧
        (∀ i : TallyIx, t.tallies[i].Good = true) ∧ SignalInv t

/-- Every step keeps the rules of the ports, the lines, the lanes, the receiver and the sequence memory (R111 to R116, R131,
R132, R134, R136, R138, R141 to R146, R161, R169, R170, R179): among them that BACKPRESSURE follows the fill, that the
reservations are exactly the confirmed entries of all transmit queues, and that neither lane overflows. The premise on the
banks, kept by every step (TablesStayLegal), rules out an ANSWER with tag 7. -/
def Obligations.PortsAndLanesStayLegal : Prop :=
  ∀ s t : State, ClassifierInv s.classifier → PortsInv s → DeferredInv s → LaneInv s → ReceiverInv s → step s = .next t →
    PortsInv t ∧ DeferredInv t ∧ LaneInv t ∧ ReceiverInv t
end

