-- ==== Sys2Proof/Laws/Characters.lean ====
section
/-! SUPPORT. What the levels of one character give the receiver, said once, and how TTX carries a message. -/

namespace Sys2Proof.Machine

/-- The data bits of a byte make the byte. -/
theorem byteOfBits_bits (value : Byte) : byteOfBits ((List.range 8).map value.getLsbD) = value := by
  apply BitVec.eq_of_getLsbD_eq
  intro i hi
  simp [byteOfBits, hi]

/-- The data bits that are still to come, and the stop bit. -/
theorem charactersOn_collecting (bits more : List Bool) (stop : Bool) (rest : List Bool)
    (h : bits.length + more.length = 8) :
    charactersOn (.collecting bits) (more ++ stop :: rest) =
      (byteOfBits (bits ++ more), !stop) :: charactersOn (if stop then .looking else .waiting) rest := by
  induction more generalizing bits with
  | nil =>
    have : ¬ bits.length < 8 := by simp at h; omega
    simp [charactersOn, this]
  | cons b more ih =>
    have : bits.length < 8 := by simp at h; omega
    simp only [List.cons_append, charactersOn, this, if_true]
    rw [ih (bits ++ [b]) (by simp at h ⊢; omega)]
    simp

/-- Mark between characters gives nothing. -/
theorem charactersOn_mark (n : Nat) (rest : List Bool) :
    charactersOn .looking (List.replicate n true ++ rest) = charactersOn .looking rest := by
  induction n with
  | zero => rfl
  | succ n ih => simpa [List.replicate_succ, charactersOn] using ih

/-- Space after a framing error gives nothing. -/
theorem charactersOn_space (n : Nat) (rest : List Bool) :
    charactersOn .waiting (List.replicate n false ++ rest) = charactersOn .waiting rest := by
  induction n with
  | zero => rfl
  | succ n ih => simpa [List.replicate_succ, charactersOn] using ih

/-- A character is ten bit times. -/
@[simp] theorem characterLevels_length (value : Byte) : (characterLevels value).length = 10 := rfl

/-- TTX in the bit times of the character `k` of a message. -/
theorem flatMap_characterLevels_get (l : List Byte) (k j : Nat) (c : Byte) (hk : l[k]? = some c) (hj : j < 10) :
    (l.flatMap characterLevels)[10 * k + j]? = (characterLevels c)[j]? := by
  induction l generalizing k with
  | nil => simp at hk
  | cons a l ih =>
    rw [List.flatMap_cons]
    cases k with
    | zero =>
      simp only [List.getElem?_cons_zero, Option.some.injEq] at hk
      rw [List.getElem?_append_left (by simp; omega), hk]
      simp
    | succ k =>
      rw [List.getElem?_append_right (by simp; omega)]
      simp only [characterLevels_length]
      rw [show 10 * (k + 1) + j - 10 = 10 * k + j by omega]
      exact ih k (by simpa using hk)

end Sys2Proof.Machine
end

