-- ==== Sys2Proof/Laws/Table.lean ====
section
/-! SUPPORT. The small lemmas of the fixed-length tables and of the words. -/

namespace Sys2Proof

variable {α β : Type} {n : Nat}

/-- Reading a table after one item has been replaced. -/
theorem update_getElem (v : Vector α n) (i : Fin n) (f : α → α) (k : Nat) (h : k < n) :
    (update v i f)[k] = if i.val = k then f v[i.val] else v[k] := by
  simp only [update, Fin.getElem_fin, Vector.getElem_set]

@[simp] theorem update_getElem_self (v : Vector α n) (i : Fin n) (f : α → α) :
    (update v i f)[i.val] = f v[i.val] := by simp [update_getElem]

theorem update_getElem_other (v : Vector α n) (i : Fin n) (f : α → α) (k : Nat) (h : k < n) (hk : i.val ≠ k) :
    (update v i f)[k] = v[k] := by simp [update_getElem, hk]

/-- Two replacements of one item are one. -/
@[simp] theorem update_update (v : Vector α n) (i : Fin n) (f g : α → α) :
    update (update v i f) i g = update v i (g ∘ f) := by
  ext k hk
  simp only [update_getElem]
  split <;> simp_all

/-- A replacement depends on what it makes of the item it replaces. -/
theorem update_congr (v : Vector α n) (i : Fin n) {f g : α → α} (h : f v[i] = g v[i]) : update v i f = update v i g := by
  rw [update, update, h]

/-- Replacements of two different items commute. -/
theorem update_comm (v : Vector α n) (i j : Fin n) (f g : α → α) (h : i ≠ j) :
    update (update v i f) j g = update (update v j g) i f := by
  ext k hk
  have hv : i.val ≠ j.val := fun e => h (Fin.ext e)
  simp only [update_getElem]
  split <;> split <;> simp_all

@[simp] theorem mapAll_getElem (f : α → β) (v : Vector α n) (k : Nat) (h : k < n) : (mapAll f v)[k] = f v[k] := by
  simp [mapAll, Vector.getElem_mk]

@[simp] theorem tabulate_getElem (f : Fin n → α) (k : Nat) (h : k < n) : (tabulate f)[k] = f ⟨k, h⟩ := by
  simp [tabulate, Vector.getElem_mk]

/-- Two tables with the same items are equal. -/
theorem table_ext {v w : Vector α n} (h : ∀ i : Fin n, v[i] = w[i]) : v = w := by
  ext k hk
  exact h ⟨k, hk⟩

/-- A saturating counter is at its bound, or one more than before. -/
theorem satInc_toNat {w : Nat} (c : BitVec w) : (satInc c).toNat = min (c.toNat + 1) (2 ^ w - 1) := by
  have hc := c.isLt
  have hp : 0 < 2 ^ w := Nat.two_pow_pos w
  unfold satInc
  split
  · subst_vars
    simp [BitVec.toNat_allOnes]
  · next h =>
    have : c.toNat ≠ 2 ^ w - 1 := fun e => h (BitVec.eq_of_toNat_eq (by simp [BitVec.toNat_allOnes, e]))
    rw [BitVec.toNat_add_of_lt] <;> cases w <;> simp_all <;> omega

end Sys2Proof
end

