-- ==== Sys2Proof/Laws/State.lean ====
section
/-! SUPPORT. One lemma per field per update of the state, each true by unfolding, so that no later proof unfolds a record
update. -/

namespace Sys2Proof.Machine

variable (s : State)

/-! ## withArbiter -/

@[simp] theorem State.withArbiter_arbiter (a : Arbiter) : (s.withArbiter a).arbiter = a := rfl
@[simp] theorem State.withArbiter_classifier (a : Arbiter) : (s.withArbiter a).classifier = s.classifier := rfl
@[simp] theorem State.withArbiter_tallies (a : Arbiter) : (s.withArbiter a).tallies = s.tallies := rfl
@[simp] theorem State.withArbiter_patterns (a : Arbiter) : (s.withArbiter a).patterns = s.patterns := rfl
@[simp] theorem State.withArbiter_outputs (a : Arbiter) : (s.withArbiter a).outputs = s.outputs := rfl
@[simp] theorem State.withArbiter_ports (a : Arbiter) : (s.withArbiter a).ports = s.ports := rfl
@[simp] theorem State.withArbiter_trunk (a : Arbiter) : (s.withArbiter a).trunk = s.trunk := rfl
@[simp] theorem State.withArbiter_memory (a : Arbiter) : (s.withArbiter a).memory = s.memory := rfl
@[simp] theorem State.withArbiter_timer (a : Arbiter) : (s.withArbiter a).timer = s.timer := rfl
@[simp] theorem State.withArbiter_rstnLow (a : Arbiter) : (s.withArbiter a).rstnLow = s.rstnLow := rfl
@[simp] theorem State.withArbiter_freeReads (a : Arbiter) : (s.withArbiter a).freeReads = s.freeReads := rfl
@[simp] theorem State.withArbiter_pending (a : Arbiter) : (s.withArbiter a).pending = s.pending := rfl
@[simp] theorem State.withArbiter_withArbiter (a a' : Arbiter) : (s.withArbiter a).withArbiter a' = s.withArbiter a' := rfl

/-! ## withClassifier -/

@[simp] theorem State.withClassifier_arbiter (c : Classifier) : (s.withClassifier c).arbiter = s.arbiter := rfl
@[simp] theorem State.withClassifier_classifier (c : Classifier) : (s.withClassifier c).classifier = c := rfl
@[simp] theorem State.withClassifier_tallies (c : Classifier) : (s.withClassifier c).tallies = s.tallies := rfl
@[simp] theorem State.withClassifier_patterns (c : Classifier) : (s.withClassifier c).patterns = s.patterns := rfl
@[simp] theorem State.withClassifier_outputs (c : Classifier) : (s.withClassifier c).outputs = s.outputs := rfl
@[simp] theorem State.withClassifier_ports (c : Classifier) : (s.withClassifier c).ports = s.ports := rfl
@[simp] theorem State.withClassifier_trunk (c : Classifier) : (s.withClassifier c).trunk = s.trunk := rfl
@[simp] theorem State.withClassifier_memory (c : Classifier) : (s.withClassifier c).memory = s.memory := rfl
@[simp] theorem State.withClassifier_timer (c : Classifier) : (s.withClassifier c).timer = s.timer := rfl
@[simp] theorem State.withClassifier_rstnLow (c : Classifier) : (s.withClassifier c).rstnLow = s.rstnLow := rfl
@[simp] theorem State.withClassifier_freeReads (c : Classifier) : (s.withClassifier c).freeReads = s.freeReads := rfl
@[simp] theorem State.withClassifier_pending (c : Classifier) : (s.withClassifier c).pending = s.pending := rfl
@[simp] theorem State.withClassifier_withClassifier (c c' : Classifier) : (s.withClassifier c).withClassifier c' = s.withClassifier c' := rfl

/-! ## withTallies -/

@[simp] theorem State.withTallies_arbiter (v : Vector Tally 8) : (s.withTallies v).arbiter = s.arbiter := rfl
@[simp] theorem State.withTallies_classifier (v : Vector Tally 8) : (s.withTallies v).classifier = s.classifier := rfl
@[simp] theorem State.withTallies_tallies (v : Vector Tally 8) : (s.withTallies v).tallies = v := rfl
@[simp] theorem State.withTallies_patterns (v : Vector Tally 8) : (s.withTallies v).patterns = s.patterns := rfl
@[simp] theorem State.withTallies_outputs (v : Vector Tally 8) : (s.withTallies v).outputs = s.outputs := rfl
@[simp] theorem State.withTallies_ports (v : Vector Tally 8) : (s.withTallies v).ports = s.ports := rfl
@[simp] theorem State.withTallies_trunk (v : Vector Tally 8) : (s.withTallies v).trunk = s.trunk := rfl
@[simp] theorem State.withTallies_memory (v : Vector Tally 8) : (s.withTallies v).memory = s.memory := rfl
@[simp] theorem State.withTallies_timer (v : Vector Tally 8) : (s.withTallies v).timer = s.timer := rfl
@[simp] theorem State.withTallies_rstnLow (v : Vector Tally 8) : (s.withTallies v).rstnLow = s.rstnLow := rfl
@[simp] theorem State.withTallies_freeReads (v : Vector Tally 8) : (s.withTallies v).freeReads = s.freeReads := rfl
@[simp] theorem State.withTallies_pending (v : Vector Tally 8) : (s.withTallies v).pending = s.pending := rfl
@[simp] theorem State.withTallies_withTallies (v v' : Vector Tally 8) : (s.withTallies v).withTallies v' = s.withTallies v' := rfl

/-! ## withPatterns -/

@[simp] theorem State.withPatterns_arbiter (v : Vector (Option Pattern) 16) : (s.withPatterns v).arbiter = s.arbiter := rfl
@[simp] theorem State.withPatterns_classifier (v : Vector (Option Pattern) 16) : (s.withPatterns v).classifier = s.classifier := rfl
@[simp] theorem State.withPatterns_tallies (v : Vector (Option Pattern) 16) : (s.withPatterns v).tallies = s.tallies := rfl
@[simp] theorem State.withPatterns_patterns (v : Vector (Option Pattern) 16) : (s.withPatterns v).patterns = v := rfl
@[simp] theorem State.withPatterns_outputs (v : Vector (Option Pattern) 16) : (s.withPatterns v).outputs = s.outputs := rfl
@[simp] theorem State.withPatterns_ports (v : Vector (Option Pattern) 16) : (s.withPatterns v).ports = s.ports := rfl
@[simp] theorem State.withPatterns_trunk (v : Vector (Option Pattern) 16) : (s.withPatterns v).trunk = s.trunk := rfl
@[simp] theorem State.withPatterns_memory (v : Vector (Option Pattern) 16) : (s.withPatterns v).memory = s.memory := rfl
@[simp] theorem State.withPatterns_timer (v : Vector (Option Pattern) 16) : (s.withPatterns v).timer = s.timer := rfl
@[simp] theorem State.withPatterns_rstnLow (v : Vector (Option Pattern) 16) : (s.withPatterns v).rstnLow = s.rstnLow := rfl
@[simp] theorem State.withPatterns_freeReads (v : Vector (Option Pattern) 16) : (s.withPatterns v).freeReads = s.freeReads := rfl
@[simp] theorem State.withPatterns_pending (v : Vector (Option Pattern) 16) : (s.withPatterns v).pending = s.pending := rfl
@[simp] theorem State.withPatterns_withPatterns (v v' : Vector (Option Pattern) 16) : (s.withPatterns v).withPatterns v' = s.withPatterns v' := rfl

/-! ## withOutputs -/

@[simp] theorem State.withOutputs_arbiter (v : Vector Output 4) : (s.withOutputs v).arbiter = s.arbiter := rfl
@[simp] theorem State.withOutputs_classifier (v : Vector Output 4) : (s.withOutputs v).classifier = s.classifier := rfl
@[simp] theorem State.withOutputs_tallies (v : Vector Output 4) : (s.withOutputs v).tallies = s.tallies := rfl
@[simp] theorem State.withOutputs_patterns (v : Vector Output 4) : (s.withOutputs v).patterns = s.patterns := rfl
@[simp] theorem State.withOutputs_outputs (v : Vector Output 4) : (s.withOutputs v).outputs = v := rfl
@[simp] theorem State.withOutputs_ports (v : Vector Output 4) : (s.withOutputs v).ports = s.ports := rfl
@[simp] theorem State.withOutputs_trunk (v : Vector Output 4) : (s.withOutputs v).trunk = s.trunk := rfl
@[simp] theorem State.withOutputs_memory (v : Vector Output 4) : (s.withOutputs v).memory = s.memory := rfl
@[simp] theorem State.withOutputs_timer (v : Vector Output 4) : (s.withOutputs v).timer = s.timer := rfl
@[simp] theorem State.withOutputs_rstnLow (v : Vector Output 4) : (s.withOutputs v).rstnLow = s.rstnLow := rfl
@[simp] theorem State.withOutputs_freeReads (v : Vector Output 4) : (s.withOutputs v).freeReads = s.freeReads := rfl
@[simp] theorem State.withOutputs_pending (v : Vector Output 4) : (s.withOutputs v).pending = s.pending := rfl
@[simp] theorem State.withOutputs_withOutputs (v v' : Vector Output 4) : (s.withOutputs v).withOutputs v' = s.withOutputs v' := rfl

/-! ## withPorts -/

@[simp] theorem State.withPorts_arbiter (v : Vector Port 8) : (s.withPorts v).arbiter = s.arbiter := rfl
@[simp] theorem State.withPorts_classifier (v : Vector Port 8) : (s.withPorts v).classifier = s.classifier := rfl
@[simp] theorem State.withPorts_tallies (v : Vector Port 8) : (s.withPorts v).tallies = s.tallies := rfl
@[simp] theorem State.withPorts_patterns (v : Vector Port 8) : (s.withPorts v).patterns = s.patterns := rfl
@[simp] theorem State.withPorts_outputs (v : Vector Port 8) : (s.withPorts v).outputs = s.outputs := rfl
@[simp] theorem State.withPorts_ports (v : Vector Port 8) : (s.withPorts v).ports = v := rfl
@[simp] theorem State.withPorts_trunk (v : Vector Port 8) : (s.withPorts v).trunk = s.trunk := rfl
@[simp] theorem State.withPorts_memory (v : Vector Port 8) : (s.withPorts v).memory = s.memory := rfl
@[simp] theorem State.withPorts_timer (v : Vector Port 8) : (s.withPorts v).timer = s.timer := rfl
@[simp] theorem State.withPorts_rstnLow (v : Vector Port 8) : (s.withPorts v).rstnLow = s.rstnLow := rfl
@[simp] theorem State.withPorts_freeReads (v : Vector Port 8) : (s.withPorts v).freeReads = s.freeReads := rfl
@[simp] theorem State.withPorts_pending (v : Vector Port 8) : (s.withPorts v).pending = s.pending := rfl
@[simp] theorem State.withPorts_withPorts (v v' : Vector Port 8) : (s.withPorts v).withPorts v' = s.withPorts v' := rfl

/-! ## withTrunk -/

@[simp] theorem State.withTrunk_arbiter (t : Trunk) : (s.withTrunk t).arbiter = s.arbiter := rfl
@[simp] theorem State.withTrunk_classifier (t : Trunk) : (s.withTrunk t).classifier = s.classifier := rfl
@[simp] theorem State.withTrunk_tallies (t : Trunk) : (s.withTrunk t).tallies = s.tallies := rfl
@[simp] theorem State.withTrunk_patterns (t : Trunk) : (s.withTrunk t).patterns = s.patterns := rfl
@[simp] theorem State.withTrunk_outputs (t : Trunk) : (s.withTrunk t).outputs = s.outputs := rfl
@[simp] theorem State.withTrunk_ports (t : Trunk) : (s.withTrunk t).ports = s.ports := rfl
@[simp] theorem State.withTrunk_trunk (t : Trunk) : (s.withTrunk t).trunk = t := rfl
@[simp] theorem State.withTrunk_memory (t : Trunk) : (s.withTrunk t).memory = s.memory := rfl
@[simp] theorem State.withTrunk_timer (t : Trunk) : (s.withTrunk t).timer = s.timer := rfl
@[simp] theorem State.withTrunk_rstnLow (t : Trunk) : (s.withTrunk t).rstnLow = s.rstnLow := rfl
@[simp] theorem State.withTrunk_freeReads (t : Trunk) : (s.withTrunk t).freeReads = s.freeReads := rfl
@[simp] theorem State.withTrunk_pending (t : Trunk) : (s.withTrunk t).pending = s.pending := rfl
@[simp] theorem State.withTrunk_withTrunk (t t' : Trunk) : (s.withTrunk t).withTrunk t' = s.withTrunk t' := rfl

/-! ## withMemory -/

@[simp] theorem State.withMemory_arbiter (m : Option Remembered) : (s.withMemory m).arbiter = s.arbiter := rfl
@[simp] theorem State.withMemory_classifier (m : Option Remembered) : (s.withMemory m).classifier = s.classifier := rfl
@[simp] theorem State.withMemory_tallies (m : Option Remembered) : (s.withMemory m).tallies = s.tallies := rfl
@[simp] theorem State.withMemory_patterns (m : Option Remembered) : (s.withMemory m).patterns = s.patterns := rfl
@[simp] theorem State.withMemory_outputs (m : Option Remembered) : (s.withMemory m).outputs = s.outputs := rfl
@[simp] theorem State.withMemory_ports (m : Option Remembered) : (s.withMemory m).ports = s.ports := rfl
@[simp] theorem State.withMemory_trunk (m : Option Remembered) : (s.withMemory m).trunk = s.trunk := rfl
@[simp] theorem State.withMemory_memory (m : Option Remembered) : (s.withMemory m).memory = m := rfl
@[simp] theorem State.withMemory_timer (m : Option Remembered) : (s.withMemory m).timer = s.timer := rfl
@[simp] theorem State.withMemory_rstnLow (m : Option Remembered) : (s.withMemory m).rstnLow = s.rstnLow := rfl
@[simp] theorem State.withMemory_freeReads (m : Option Remembered) : (s.withMemory m).freeReads = s.freeReads := rfl
@[simp] theorem State.withMemory_pending (m : Option Remembered) : (s.withMemory m).pending = s.pending := rfl
@[simp] theorem State.withMemory_withMemory (m m' : Option Remembered) : (s.withMemory m).withMemory m' = s.withMemory m' := rfl

/-! ## withTimer -/

@[simp] theorem State.withTimer_arbiter (w : Word) : (s.withTimer w).arbiter = s.arbiter := rfl
@[simp] theorem State.withTimer_classifier (w : Word) : (s.withTimer w).classifier = s.classifier := rfl
@[simp] theorem State.withTimer_tallies (w : Word) : (s.withTimer w).tallies = s.tallies := rfl
@[simp] theorem State.withTimer_patterns (w : Word) : (s.withTimer w).patterns = s.patterns := rfl
@[simp] theorem State.withTimer_outputs (w : Word) : (s.withTimer w).outputs = s.outputs := rfl
@[simp] theorem State.withTimer_ports (w : Word) : (s.withTimer w).ports = s.ports := rfl
@[simp] theorem State.withTimer_trunk (w : Word) : (s.withTimer w).trunk = s.trunk := rfl
@[simp] theorem State.withTimer_memory (w : Word) : (s.withTimer w).memory = s.memory := rfl
@[simp] theorem State.withTimer_timer (w : Word) : (s.withTimer w).timer = w := rfl
@[simp] theorem State.withTimer_rstnLow (w : Word) : (s.withTimer w).rstnLow = s.rstnLow := rfl
@[simp] theorem State.withTimer_freeReads (w : Word) : (s.withTimer w).freeReads = s.freeReads := rfl
@[simp] theorem State.withTimer_pending (w : Word) : (s.withTimer w).pending = s.pending := rfl
@[simp] theorem State.withTimer_withTimer (w w' : Word) : (s.withTimer w).withTimer w' = s.withTimer w' := rfl

/-! ## withRstnLow -/

@[simp] theorem State.withRstnLow_arbiter (b : Bool) : (s.withRstnLow b).arbiter = s.arbiter := rfl
@[simp] theorem State.withRstnLow_classifier (b : Bool) : (s.withRstnLow b).classifier = s.classifier := rfl
@[simp] theorem State.withRstnLow_tallies (b : Bool) : (s.withRstnLow b).tallies = s.tallies := rfl
@[simp] theorem State.withRstnLow_patterns (b : Bool) : (s.withRstnLow b).patterns = s.patterns := rfl
@[simp] theorem State.withRstnLow_outputs (b : Bool) : (s.withRstnLow b).outputs = s.outputs := rfl
@[simp] theorem State.withRstnLow_ports (b : Bool) : (s.withRstnLow b).ports = s.ports := rfl
@[simp] theorem State.withRstnLow_trunk (b : Bool) : (s.withRstnLow b).trunk = s.trunk := rfl
@[simp] theorem State.withRstnLow_memory (b : Bool) : (s.withRstnLow b).memory = s.memory := rfl
@[simp] theorem State.withRstnLow_timer (b : Bool) : (s.withRstnLow b).timer = s.timer := rfl
@[simp] theorem State.withRstnLow_rstnLow (b : Bool) : (s.withRstnLow b).rstnLow = b := rfl
@[simp] theorem State.withRstnLow_freeReads (b : Bool) : (s.withRstnLow b).freeReads = s.freeReads := rfl
@[simp] theorem State.withRstnLow_pending (b : Bool) : (s.withRstnLow b).pending = s.pending := rfl
@[simp] theorem State.withRstnLow_withRstnLow (b b' : Bool) : (s.withRstnLow b).withRstnLow b' = s.withRstnLow b' := rfl

/-! ## withFreeReads -/

@[simp] theorem State.withFreeReads_arbiter (n : Nat) : (s.withFreeReads n).arbiter = s.arbiter := rfl
@[simp] theorem State.withFreeReads_classifier (n : Nat) : (s.withFreeReads n).classifier = s.classifier := rfl
@[simp] theorem State.withFreeReads_tallies (n : Nat) : (s.withFreeReads n).tallies = s.tallies := rfl
@[simp] theorem State.withFreeReads_patterns (n : Nat) : (s.withFreeReads n).patterns = s.patterns := rfl
@[simp] theorem State.withFreeReads_outputs (n : Nat) : (s.withFreeReads n).outputs = s.outputs := rfl
@[simp] theorem State.withFreeReads_ports (n : Nat) : (s.withFreeReads n).ports = s.ports := rfl
@[simp] theorem State.withFreeReads_trunk (n : Nat) : (s.withFreeReads n).trunk = s.trunk := rfl
@[simp] theorem State.withFreeReads_memory (n : Nat) : (s.withFreeReads n).memory = s.memory := rfl
@[simp] theorem State.withFreeReads_timer (n : Nat) : (s.withFreeReads n).timer = s.timer := rfl
@[simp] theorem State.withFreeReads_rstnLow (n : Nat) : (s.withFreeReads n).rstnLow = s.rstnLow := rfl
@[simp] theorem State.withFreeReads_freeReads (n : Nat) : (s.withFreeReads n).freeReads = n := rfl
@[simp] theorem State.withFreeReads_pending (n : Nat) : (s.withFreeReads n).pending = s.pending := rfl
@[simp] theorem State.withFreeReads_withFreeReads (n n' : Nat) : (s.withFreeReads n).withFreeReads n' = s.withFreeReads n' := rfl

/-! ## withPending -/

@[simp] theorem State.withPending_arbiter (q : List Instr) : (s.withPending q).arbiter = s.arbiter := rfl
@[simp] theorem State.withPending_classifier (q : List Instr) : (s.withPending q).classifier = s.classifier := rfl
@[simp] theorem State.withPending_tallies (q : List Instr) : (s.withPending q).tallies = s.tallies := rfl
@[simp] theorem State.withPending_patterns (q : List Instr) : (s.withPending q).patterns = s.patterns := rfl
@[simp] theorem State.withPending_outputs (q : List Instr) : (s.withPending q).outputs = s.outputs := rfl
@[simp] theorem State.withPending_ports (q : List Instr) : (s.withPending q).ports = s.ports := rfl
@[simp] theorem State.withPending_trunk (q : List Instr) : (s.withPending q).trunk = s.trunk := rfl
@[simp] theorem State.withPending_memory (q : List Instr) : (s.withPending q).memory = s.memory := rfl
@[simp] theorem State.withPending_timer (q : List Instr) : (s.withPending q).timer = s.timer := rfl
@[simp] theorem State.withPending_rstnLow (q : List Instr) : (s.withPending q).rstnLow = s.rstnLow := rfl
@[simp] theorem State.withPending_freeReads (q : List Instr) : (s.withPending q).freeReads = s.freeReads := rfl
@[simp] theorem State.withPending_pending (q : List Instr) : (s.withPending q).pending = q := rfl
@[simp] theorem State.withPending_withPending (q q' : List Instr) : (s.withPending q).withPending q' = s.withPending q' := rfl

/-! ## onPort -/

@[simp] theorem State.onPort_arbiter (p : PortIx) (f : Port → Port) : (s.onPort p f).arbiter = s.arbiter := rfl
@[simp] theorem State.onPort_classifier (p : PortIx) (f : Port → Port) :
    (s.onPort p f).classifier =
      s.classifier := rfl
@[simp] theorem State.onPort_tallies (p : PortIx) (f : Port → Port) : (s.onPort p f).tallies = s.tallies := rfl
@[simp] theorem State.onPort_patterns (p : PortIx) (f : Port → Port) : (s.onPort p f).patterns = s.patterns := rfl
@[simp] theorem State.onPort_outputs (p : PortIx) (f : Port → Port) : (s.onPort p f).outputs = s.outputs := rfl
@[simp] theorem State.onPort_ports (p : PortIx) (f : Port → Port) : (s.onPort p f).ports = update s.ports p f := rfl
@[simp] theorem State.onPort_trunk (p : PortIx) (f : Port → Port) : (s.onPort p f).trunk = s.trunk := rfl
@[simp] theorem State.onPort_memory (p : PortIx) (f : Port → Port) : (s.onPort p f).memory = s.memory := rfl
@[simp] theorem State.onPort_timer (p : PortIx) (f : Port → Port) : (s.onPort p f).timer = s.timer := rfl
@[simp] theorem State.onPort_rstnLow (p : PortIx) (f : Port → Port) : (s.onPort p f).rstnLow = s.rstnLow := rfl
@[simp] theorem State.onPort_freeReads (p : PortIx) (f : Port → Port) : (s.onPort p f).freeReads = s.freeReads := rfl
@[simp] theorem State.onPort_pending (p : PortIx) (f : Port → Port) : (s.onPort p f).pending = s.pending := rfl

/-! ## onOutput -/

@[simp] theorem State.onOutput_arbiter (o : OutputIx) (f : Output → Output) :
    (s.onOutput o f).arbiter =
      s.arbiter := rfl
@[simp] theorem State.onOutput_classifier (o : OutputIx) (f : Output → Output) :
    (s.onOutput o f).classifier =
      s.classifier := rfl
@[simp] theorem State.onOutput_tallies (o : OutputIx) (f : Output → Output) :
    (s.onOutput o f).tallies =
      s.tallies := rfl
@[simp] theorem State.onOutput_patterns (o : OutputIx) (f : Output → Output) :
    (s.onOutput o f).patterns =
      s.patterns := rfl
@[simp] theorem State.onOutput_outputs (o : OutputIx) (f : Output → Output) :
    (s.onOutput o f).outputs =
      update s.outputs o f := rfl
@[simp] theorem State.onOutput_ports (o : OutputIx) (f : Output → Output) : (s.onOutput o f).ports = s.ports := rfl
@[simp] theorem State.onOutput_trunk (o : OutputIx) (f : Output → Output) : (s.onOutput o f).trunk = s.trunk := rfl
@[simp] theorem State.onOutput_memory (o : OutputIx) (f : Output → Output) : (s.onOutput o f).memory = s.memory := rfl
@[simp] theorem State.onOutput_timer (o : OutputIx) (f : Output → Output) : (s.onOutput o f).timer = s.timer := rfl
@[simp] theorem State.onOutput_rstnLow (o : OutputIx) (f : Output → Output) :
    (s.onOutput o f).rstnLow =
      s.rstnLow := rfl
@[simp] theorem State.onOutput_freeReads (o : OutputIx) (f : Output → Output) :
    (s.onOutput o f).freeReads =
      s.freeReads := rfl
@[simp] theorem State.onOutput_pending (o : OutputIx) (f : Output → Output) :
    (s.onOutput o f).pending =
      s.pending := rfl

/-! ## onTally -/

@[simp] theorem State.onTally_arbiter (i : TallyIx) (f : Tally → Tally) : (s.onTally i f).arbiter = s.arbiter := rfl
@[simp] theorem State.onTally_classifier (i : TallyIx) (f : Tally → Tally) :
    (s.onTally i f).classifier =
      s.classifier := rfl
@[simp] theorem State.onTally_tallies (i : TallyIx) (f : Tally → Tally) :
    (s.onTally i f).tallies =
      update s.tallies i f := rfl
@[simp] theorem State.onTally_patterns (i : TallyIx) (f : Tally → Tally) :
    (s.onTally i f).patterns =
      s.patterns := rfl
@[simp] theorem State.onTally_outputs (i : TallyIx) (f : Tally → Tally) : (s.onTally i f).outputs = s.outputs := rfl
@[simp] theorem State.onTally_ports (i : TallyIx) (f : Tally → Tally) : (s.onTally i f).ports = s.ports := rfl
@[simp] theorem State.onTally_trunk (i : TallyIx) (f : Tally → Tally) : (s.onTally i f).trunk = s.trunk := rfl
@[simp] theorem State.onTally_memory (i : TallyIx) (f : Tally → Tally) : (s.onTally i f).memory = s.memory := rfl
@[simp] theorem State.onTally_timer (i : TallyIx) (f : Tally → Tally) : (s.onTally i f).timer = s.timer := rfl
@[simp] theorem State.onTally_rstnLow (i : TallyIx) (f : Tally → Tally) : (s.onTally i f).rstnLow = s.rstnLow := rfl
@[simp] theorem State.onTally_freeReads (i : TallyIx) (f : Tally → Tally) :
    (s.onTally i f).freeReads =
      s.freeReads := rfl
@[simp] theorem State.onTally_pending (i : TallyIx) (f : Tally → Tally) : (s.onTally i f).pending = s.pending := rfl

/-! ## onLevel -/

@[simp] theorem State.onLevel_arbiter (l : LevelIx) (f : Level → Level) :
    (s.onLevel l f).arbiter =
      { s.arbiter with levels := update s.arbiter.levels l f } := rfl
@[simp] theorem State.onLevel_classifier (l : LevelIx) (f : Level → Level) :
    (s.onLevel l f).classifier =
      s.classifier := rfl
@[simp] theorem State.onLevel_tallies (l : LevelIx) (f : Level → Level) : (s.onLevel l f).tallies = s.tallies := rfl
@[simp] theorem State.onLevel_patterns (l : LevelIx) (f : Level → Level) :
    (s.onLevel l f).patterns =
      s.patterns := rfl
@[simp] theorem State.onLevel_outputs (l : LevelIx) (f : Level → Level) : (s.onLevel l f).outputs = s.outputs := rfl
@[simp] theorem State.onLevel_ports (l : LevelIx) (f : Level → Level) : (s.onLevel l f).ports = s.ports := rfl
@[simp] theorem State.onLevel_trunk (l : LevelIx) (f : Level → Level) : (s.onLevel l f).trunk = s.trunk := rfl
@[simp] theorem State.onLevel_memory (l : LevelIx) (f : Level → Level) : (s.onLevel l f).memory = s.memory := rfl
@[simp] theorem State.onLevel_timer (l : LevelIx) (f : Level → Level) : (s.onLevel l f).timer = s.timer := rfl
@[simp] theorem State.onLevel_rstnLow (l : LevelIx) (f : Level → Level) : (s.onLevel l f).rstnLow = s.rstnLow := rfl
@[simp] theorem State.onLevel_freeReads (l : LevelIx) (f : Level → Level) :
    (s.onLevel l f).freeReads =
      s.freeReads := rfl
@[simp] theorem State.onLevel_pending (l : LevelIx) (f : Level → Level) : (s.onLevel l f).pending = s.pending := rfl

/-! ## setDeferred -/

@[simp] theorem State.setDeferred_arbiter (p : PortIx) (b : Bool) : (s.setDeferred p b).arbiter = s.arbiter := rfl
@[simp] theorem State.setDeferred_classifier (p : PortIx) (b : Bool) :
    (s.setDeferred p b).classifier =
      { s.classifier with deferred := update s.classifier.deferred p fun _ => b } := rfl
@[simp] theorem State.setDeferred_tallies (p : PortIx) (b : Bool) : (s.setDeferred p b).tallies = s.tallies := rfl
@[simp] theorem State.setDeferred_patterns (p : PortIx) (b : Bool) : (s.setDeferred p b).patterns = s.patterns := rfl
@[simp] theorem State.setDeferred_outputs (p : PortIx) (b : Bool) : (s.setDeferred p b).outputs = s.outputs := rfl
@[simp] theorem State.setDeferred_ports (p : PortIx) (b : Bool) : (s.setDeferred p b).ports = s.ports := rfl
@[simp] theorem State.setDeferred_trunk (p : PortIx) (b : Bool) : (s.setDeferred p b).trunk = s.trunk := rfl
@[simp] theorem State.setDeferred_memory (p : PortIx) (b : Bool) : (s.setDeferred p b).memory = s.memory := rfl
@[simp] theorem State.setDeferred_timer (p : PortIx) (b : Bool) : (s.setDeferred p b).timer = s.timer := rfl
@[simp] theorem State.setDeferred_rstnLow (p : PortIx) (b : Bool) : (s.setDeferred p b).rstnLow = s.rstnLow := rfl
@[simp] theorem State.setDeferred_freeReads (p : PortIx) (b : Bool) :
    (s.setDeferred p b).freeReads =
      s.freeReads := rfl
@[simp] theorem State.setDeferred_pending (p : PortIx) (b : Bool) : (s.setDeferred p b).pending = s.pending := rfl

/-! ## queueControl -/

@[simp] theorem State.queueControl_arbiter (m : ControlMessage) (r : Option LinkRate) :
    (s.queueControl m r).arbiter =
      s.arbiter := rfl
@[simp] theorem State.queueControl_classifier (m : ControlMessage) (r : Option LinkRate) :
    (s.queueControl m r).classifier =
      s.classifier := rfl
@[simp] theorem State.queueControl_tallies (m : ControlMessage) (r : Option LinkRate) :
    (s.queueControl m r).tallies =
      s.tallies := rfl
@[simp] theorem State.queueControl_patterns (m : ControlMessage) (r : Option LinkRate) :
    (s.queueControl m r).patterns =
      s.patterns := rfl
@[simp] theorem State.queueControl_outputs (m : ControlMessage) (r : Option LinkRate) :
    (s.queueControl m r).outputs =
      s.outputs := rfl
@[simp] theorem State.queueControl_ports (m : ControlMessage) (r : Option LinkRate) :
    (s.queueControl m r).ports =
      s.ports := rfl
@[simp] theorem State.queueControl_trunk (m : ControlMessage) (r : Option LinkRate) :
    (s.queueControl m r).trunk =
      { s.trunk with control := s.trunk.control ++ [⟨m, r⟩] } := rfl
@[simp] theorem State.queueControl_memory (m : ControlMessage) (r : Option LinkRate) :
    (s.queueControl m r).memory =
      s.memory := rfl
@[simp] theorem State.queueControl_timer (m : ControlMessage) (r : Option LinkRate) :
    (s.queueControl m r).timer =
      s.timer := rfl
@[simp] theorem State.queueControl_rstnLow (m : ControlMessage) (r : Option LinkRate) :
    (s.queueControl m r).rstnLow =
      s.rstnLow := rfl
@[simp] theorem State.queueControl_freeReads (m : ControlMessage) (r : Option LinkRate) :
    (s.queueControl m r).freeReads =
      s.freeReads := rfl
@[simp] theorem State.queueControl_pending (m : ControlMessage) (r : Option LinkRate) :
    (s.queueControl m r).pending =
      s.pending := rfl

/-! ## overrun -/

@[simp] theorem State.overrun_arbiter : (s.overrun).arbiter = s.arbiter := rfl
@[simp] theorem State.overrun_classifier : (s.overrun).classifier = s.classifier := rfl
@[simp] theorem State.overrun_tallies : (s.overrun).tallies = s.tallies := rfl
@[simp] theorem State.overrun_patterns : (s.overrun).patterns = s.patterns := rfl
@[simp] theorem State.overrun_outputs : (s.overrun).outputs = s.outputs := rfl
@[simp] theorem State.overrun_ports : (s.overrun).ports = s.ports := rfl
@[simp] theorem State.overrun_trunk : (s.overrun).trunk = { s.trunk with overruns := satInc s.trunk.overruns } := rfl
@[simp] theorem State.overrun_memory : (s.overrun).memory = s.memory := rfl
@[simp] theorem State.overrun_timer : (s.overrun).timer = s.timer := rfl
@[simp] theorem State.overrun_rstnLow : (s.overrun).rstnLow = s.rstnLow := rfl
@[simp] theorem State.overrun_freeReads : (s.overrun).freeReads = s.freeReads := rfl
@[simp] theorem State.overrun_pending : (s.overrun).pending = s.pending := rfl

end Sys2Proof.Machine
end

