-- ==== Sys2Proof/Laws/Requests.lean ====
section
/-! SUPPORT. What the arrival of a message and of a sequenced request can do, said once each, in the terms of
Safety.lean. -/

namespace Sys2Proof.Machine

variable (s : State)

/-! ## heard -/

@[simp] theorem State.heard_classifier : s.heard.classifier = s.classifier := rfl
@[simp] theorem State.heard_tallies : s.heard.tallies = s.tallies := rfl
@[simp] theorem State.heard_patterns : s.heard.patterns = s.patterns := rfl
@[simp] theorem State.heard_outputs : s.heard.outputs = s.outputs := rfl
@[simp] theorem State.heard_ports : s.heard.ports = s.ports := rfl
@[simp] theorem State.heard_memory : s.heard.memory = s.memory := rfl
@[simp] theorem State.heard_timer : s.heard.timer = s.timer := rfl
@[simp] theorem State.heard_rstnLow : s.heard.rstnLow = s.rstnLow := rfl
@[simp] theorem State.heard_freeReads : s.heard.freeReads = s.freeReads := rfl
@[simp] theorem State.heard_pending : s.heard.pending = s.pending := rfl
@[simp] theorem State.heard_trunk : s.heard.trunk = { s.trunk with receiver := .hunt, awaitsMark := false } := rfl

@[simp] theorem State.heard_levels : s.heard.arbiter.levels = s.arbiter.levels := by
  simp only [State.heard]; split <;> rfl
@[simp] theorem State.heard_bands : s.heard.arbiter.bands = s.arbiter.bands := by
  simp only [State.heard]; split <;> rfl
@[simp] theorem State.heard_stack : s.heard.arbiter.stack = s.arbiter.stack := by
  simp only [State.heard]; split <;> rfl
@[simp] theorem State.heard_mode : s.heard.arbiter.mode = s.arbiter.mode := by
  simp only [State.heard]; split <;> rfl
@[simp] theorem State.heard_number : s.heard.arbiter.number = s.arbiter.number := by
  simp only [State.heard]; split <;> rfl
@[simp] theorem State.heard_takeLimit : s.heard.arbiter.takeLimit = s.arbiter.takeLimit := by
  simp only [State.heard]; split <;> rfl
@[simp] theorem State.heard_lapseLimit : s.heard.arbiter.lapseLimit = s.arbiter.lapseLimit := by
  simp only [State.heard]; split <;> rfl
@[simp] theorem State.heard_totalLapses : s.heard.arbiter.totalLapses = s.arbiter.totalLapses := by
  simp only [State.heard]; split <;> rfl

/-- After a message the arbiter is not in QUIESCENT (R41). -/
theorem State.heard_not_quiescent : s.heard.arbiter.state ≠ .quiescent := by
  simp only [State.heard]; split <;> simp_all

/-- Hearing a second time changes nothing. -/
@[simp] theorem State.heard_heard : s.heard.heard = s.heard := by
  have h := s.heard_not_quiescent
  conv_lhs => rw [State.heard]
  simp only [h, if_false]
  rfl

/-! ## Room and alerts -/

theorem Trunk.room_iff (t : Trunk) : t.room = true ↔ t.control.length + t.reservations < 16 := by
  exact decide_eq_true_iff

theorem Trunk.room_false_iff (t : Trunk) : t.room = false ↔ ¬ t.control.length + t.reservations < 16 := by
  rw [← Trunk.room_iff]; simp

/-- Raising an ALERT, in the terms of the claims. -/
theorem State.alert_eq (c : AlertContent) : s.alert c = s.alerted c := by
  unfold State.alert State.alerted
  by_cases h : s.trunk.control.length + s.trunk.reservations < 16
  · rw [if_pos ((Trunk.room_iff _).2 h), if_pos h]; rfl
  · rw [if_neg (by simpa [Trunk.room_iff] using h), if_neg h]; rfl

theorem State.queueControl_none (m : ControlMessage) : s.queueControl m none = s.queued m := rfl

theorem State.overrun_eq : s.overrun = s.overran := rfl

/-! ## Messages -/

theorem State.receives_iff : s.receives = true ↔ s.Hears := by
  simp [State.receives, State.Hears]

/-- A message that the part takes is handed to its owner on the state that has heard it. -/
theorem State.onMessage_heard (h : s.Hears) (owner : State → State) : s.onMessage owner = owner s.heard := by
  unfold State.onMessage
  rw [if_pos ((s.receives_iff).2 h)]
  rfl

/-- A message that the part cannot take changes nothing. -/
theorem State.onMessage_deaf (h : ¬ s.Hears) (owner : State → State) : s.onMessage owner = s := by
  unfold State.onMessage
  rw [if_neg (by simpa [State.receives_iff] using h)]

theorem State.Remembers_iff (sequence : Byte) :
    s.Remembers sequence ↔ ∃ m, s.memory = some m ∧ m.sequence = sequence := by
  unfold State.Remembers
  cases s.memory <;> simp

theorem State.memory_filter_none {sequence : Byte} (h : ¬ s.Remembers sequence) :
    (s.memory.filter fun m => m.sequence == sequence) = none := by
  cases hm : s.memory with
  | none => rfl
  | some m => simp_all [Option.filter]

/-- A request that is admitted is executed, and its REPLY stored and queued (R178). -/
theorem State.sequenced_admitted {sequence : Byte} (code : Byte) (toSend : Bool) (body : State → Executed)
    (hr : s.HasRoom) (hm : ¬ s.Remembers sequence) :
    s.sequenced sequence code toSend body =
      ((body s).state.withMemory (some ⟨sequence, replyOf sequence code toSend (body s)⟩)).queueControl
        (.reply (replyOf sequence code toSend (body s))) (body s).rate := by
  unfold State.sequenced
  rw [s.memory_filter_none hm]
  simp only [(Trunk.room_iff _).2 hr, if_true]

/-- A duplicate draws the stored REPLY, or counts as an overrun (R180). -/
theorem State.sequenced_duplicate {sequence : Byte} (code : Byte) (toSend : Bool) (body : State → Executed)
    {m : Remembered} (hm : s.memory = some m) (hs : m.sequence = sequence) :
    s.sequenced sequence code toSend body =
      if s.trunk.room then s.queueControl (.reply { m.reply with repeated := true }) none else s.overrun := by
  unfold State.sequenced
  simp [hm, hs, Option.filter]

/-- Without room a request is ignored and counted (R180, R181). -/
theorem State.sequenced_no_room (sequence code : Byte) (toSend : Bool) (body : State → Executed)
    (hr : ¬ s.HasRoom) : s.sequenced sequence code toSend body = s.overrun := by
  have h : s.trunk.room = false := (Trunk.room_false_iff _).2 hr
  unfold State.sequenced
  split <;> simp [h]

theorem State.heard_hasRoom (h : s.HasRoom) : s.heard.HasRoom := h

theorem State.heard_remembers {sequence : Byte} (h : ¬ s.Remembers sequence) : ¬ s.heard.Remembers sequence := h

/-- An admitted COMMAND, by what its body gives on the state that has heard it. -/
theorem State.command_admitted {sequence : Byte} (h : s.Admits sequence) (c : Command) (body : State → Executed) :
    s.command c sequence body =
      ((body s.heard).state.withMemory (some ⟨sequence, replyOf sequence c.code false (body s.heard)⟩)).queueControl
        (.reply (replyOf sequence c.code false (body s.heard))) (body s.heard).rate := by
  unfold State.command
  rw [s.onMessage_heard h.1]
  exact s.heard.sequenced_admitted _ _ _ h.2.1 h.2.2

/-- An admitted COMMAND whose REPLY has no pending rate. -/
theorem State.command_replied {sequence : Byte} (h : s.Admits sequence) (c : Command) (body : State → Executed)
    {t : State} {status : Status} {data : List Byte} (hb : body s.heard = ⟨t, status, data, none⟩) :
    s.command c sequence body = t.replied sequence c.code status data := by
  rw [s.command_admitted h, hb]
  rfl

/-- A COMMAND that its checks refuse changes nothing but the memory and the lane (R185). -/
theorem State.command_refused {sequence : Byte} (h : s.Admits sequence) (c : Command) (body : State → Executed)
    {status : Status} (hb : body s.heard = refuse s.heard status) :
    s.command c sequence body = s.heard.replied sequence c.code status [] :=
  s.command_replied h c body hb

end Sys2Proof.Machine
end

