-- ==== Sys2Proof/Laws/Operations.lean ====
section
/-! SUPPORT. For each shared operation of the lanes, the levels and the arbiter, one lemma that says what it can do, in
the terms of Safety.lean. -/

namespace Sys2Proof.Machine

variable (s : State)

/-! ## Entries that leave a transmit queue (R145, R148, R170) -/

/-- One entry that leaves: its RESULT where it is confirmed, in its reservation. -/
theorem State.queueResult_eq (p : PortIx) (outcome : SendOutcome) (e : TxEntry) (attempts : Nat) :
    s.queueResult p outcome e attempts = s.withTrunk (s.trunk.resulted p outcome attempts [e]) := by
  obtain ⟨tag, data, request⟩ := e
  cases request <;>
    simp [State.queueResult, Trunk.resulted, resultsOf, confirmedIn, State.withTrunk]

/-- Entries that leave together: their RESULTs, head first, in their reservations. -/
theorem State.queueResults_eq (p : PortIx) (outcome : SendOutcome) (entries : List TxEntry) (attempts : Nat) :
    s.queueResults p outcome entries attempts = s.withTrunk (s.trunk.resulted p outcome attempts entries) := by
  induction entries generalizing s attempts with
  | nil => simp [State.queueResults, Trunk.resulted, resultsOf, confirmedIn, State.withTrunk]
  | cons e rest ih =>
    rw [State.queueResults, ih, State.queueResult_eq]
    obtain ⟨tag, data, request⟩ := e
    cases request <;>
      simp [Trunk.resulted, resultsOf, confirmedIn, State.withTrunk, Nat.sub_sub, Nat.add_comm]

/-! ## Levels (R4, R6, R12, R41) -/

/-- An assertion changes the pending record of its level and nothing else. -/
theorem State.assertLevel_eq (l : LevelIx) (source : Source) (data : Byte) (time : Word) :
    s.assertLevel l source data time = s.withArbiter (s.arbiter.asserted l source data time) := by
  simp only [State.assertLevel, State.onLevel, Arbiter.asserted]
  congr 3
  funext x
  cases x.pending <;> simp [Record.first, Record.join, Source.sameSource, Bool.not_and, bne]

/-- An assertion to a level that may be absent. -/
theorem State.assertOptional_eq (l : Option LevelIx) (source : Source) (data : Byte) :
    s.assertOptional l source data = s.withArbiter (s.arbiter.assertedAt l source data s.timer) := by
  cases l with
  | none => rfl
  | some l => exact s.assertLevel_eq l source data s.timer

/-- A withdrawal removes the pending record of its level and changes nothing else. -/
theorem State.withdrawLevel_eq (l : LevelIx) :
    s.withdrawLevel l = s.withArbiter { s.arbiter with
      levels := update s.arbiter.levels l fun x => { x with pending := none } } := rfl

/-- A completion takes the level out of the stack and rotates its band; it changes nothing else. -/
theorem Arbiter.complete_eq (a : Arbiter) (l : LevelIx) :
    a.complete l = { a with stack := a.stack.filter fun e => e.level != l, bands := a.rotated l } := rfl

/-- A stack that holds each level at most once, once a level has left it. -/
theorem stack_filter_middle (above below : List InService) (e : InService)
    (h : ((above ++ e :: below).map InService.level).Nodup) :
    (above ++ e :: below).filter (fun x => x.level != e.level) = above ++ below := by
  have ha : ∀ x ∈ above, x.level ≠ e.level := by
    intro x hx hxe
    rw [List.map_append, List.nodup_append] at h
    exact h.2.2 x.level (List.mem_map_of_mem hx) e.level (by simp) hxe
  have hb : ∀ x ∈ below, x.level ≠ e.level := by
    intro x hx hxe
    rw [List.map_append, List.nodup_append, List.map_cons, List.nodup_cons] at h
    exact h.2.1.1 (hxe ▸ List.mem_map_of_mem hx)
  rw [List.filter_append, List.filter_cons_of_neg (by simp),
    List.filter_eq_self.2 (fun x hx => by simpa using ha x hx),
    List.filter_eq_self.2 (fun x hx => by simpa using hb x hx)]

/-! ## Offers (R27, R28) -/

/-- What an offer can be: none, or the highest-ranked eligible level under the next number with its NOTICE. -/
theorem State.makeOffer_cases :
    (s.makeOffer = s ∧ (¬ s.HasRoom ∨ s.arbiter.state ≠ .idle ∨ s.arbiter.candidate = none)) ∨
    ∃ l r, s.HasRoom ∧ s.arbiter.state = .idle ∧ s.arbiter.highest = some l ∧
      s.arbiter.levels[l].pending = some r ∧
      s.makeOffer = (s.withArbiter { s.arbiter with
        number := s.arbiter.number + 1, state := .presenting l }).queueControl
          (.notice (s.arbiter.number + 1) l r.source.kind r.count) none := by
  by_cases hr : s.trunk.room = true
  · have hr' := (Trunk.room_iff _).1 hr
    cases hc : s.arbiter.candidate with
    | none => exact .inl ⟨by simp [State.makeOffer, hr, hc], .inr (.inr rfl)⟩
    | some x =>
      obtain ⟨l, r⟩ := x
      have h := hc
      unfold Arbiter.candidate at h
      split at h
      · next hi =>
        simp only [Option.bind_eq_bind, Option.bind_eq_some_iff, Option.pure_def, Option.some.injEq,
          Prod.mk.injEq] at h
        obtain ⟨l', hl, r', hr2, rfl, rfl⟩ := h
        exact .inr ⟨_, _, hr', hi, hl, hr2, by simp [State.makeOffer, hr, hc]⟩
      · cases h
  · refine .inl ⟨by simp [State.makeOffer, hr], .inl ?_⟩
    rwa [State.HasRoom, ← Trunk.room_iff]

/-- An offer changes nothing but the arbiter's number and state and the control lane. -/
theorem State.makeOffer_frame :
    s.makeOffer.classifier = s.classifier ∧ s.makeOffer.tallies = s.tallies ∧
    s.makeOffer.patterns = s.patterns ∧ s.makeOffer.outputs = s.outputs ∧ s.makeOffer.ports = s.ports ∧
    s.makeOffer.memory = s.memory ∧ s.makeOffer.timer = s.timer ∧ s.makeOffer.rstnLow = s.rstnLow ∧
    s.makeOffer.freeReads = s.freeReads ∧ s.makeOffer.pending = s.pending := by
  rcases s.makeOffer_cases with ⟨h, -⟩ | ⟨l, r, -, -, -, -, h⟩ <;> rw [h] <;> simp

/-! ## RSTN (R177) -/

theorem State.whileRunning_run (f : State → State) (h : s.rstnLow = false) : s.whileRunning f = f s := by
  simp [State.whileRunning, h]

theorem State.whileRunning_low (f : State → State) (h : s.rstnLow = true) : s.whileRunning f = s := by
  simp [State.whileRunning, h]

end Sys2Proof.Machine
end

