-- ==== Sys2Proof/Laws/Ports.lean ====
section
/-! SUPPORT. For each shared operation of a port and its line, one lemma that says what it can do, in the terms of
Safety.lean. -/

namespace Sys2Proof.Machine

variable (s : State) (pt : Port)

/-! ## Reasons (R112, R113, R117) -/

/-- What raising a reason keeps: everything of the port but the reason, what the line is doing, its ready frame and
the count of held-off frames. -/
theorem Port.raise_frame (r : Reason) :
    (pt.raise r).presence = pt.presence ∧ (pt.raise r).endpointType = pt.endpointType ∧
    (pt.raise r).probeDue = pt.probeDue ∧ (pt.raise r).probeTimer = pt.probeTimer ∧
    (pt.raise r).silenceTimer = pt.silenceTimer ∧ (pt.raise r).intake = pt.intake ∧
    (pt.raise r).queue = pt.queue ∧ (pt.raise r).attempts = pt.attempts ∧
    (pt.raise r).lineErrorRun = pt.lineErrorRun ∧ (pt.raise r).sendFailureRun = pt.sendFailureRun ∧
    (pt.raise r).config = pt.config ∧ (pt.raise r).line.reasons = pt.line.reasons.set r true := by
  unfold Port.raise Port.setReason Port.withLine Port.countHeldOff
  split
  · simp
  · dsimp only; split
    · split <;> simp
    · simp
  · simp
  · split <;> simp

/-- On a line with nothing in progress a reason only stands. -/
theorem Port.raise_none (r : Reason) (h : pt.line.activity = .none) : pt.raise r = pt.setReason r true := by
  simp [Port.raise, h]

/-- An inbound frame before its commit point is held off, and reported unless it is dropped. -/
theorem Port.raise_holds_off (r : Reason) {bits : List Bool} {low gone : Bool}
    (h : pt.line.activity = .inbound bits low gone) (hr : pt.line.reasons.any = false) (hb : bits.length < 12) :
    pt.raise r =
      { pt with
        line := ⟨.none, pt.line.reasons.set r true, pt.line.ready⟩
        stats := if gone = true then pt.stats
          else { pt.stats with preemptedInbound := satInc pt.stats.preemptedInbound } } := by
  cases gone <;> simp [Port.raise, h, hr, hb, Port.setReason, Port.withLine, Port.countHeldOff]

/-- A committed inbound frame, or one held up by another reason, runs on. -/
theorem Port.raise_waits (r : Reason) {bits : List Bool} {low gone : Bool}
    (h : pt.line.activity = .inbound bits low gone) (hr : pt.line.reasons.any = true ∨ 12 ≤ bits.length) :
    pt.raise r = pt.setReason r true := by
  have : ¬ (pt.line.reasons.any = false ∧ bits.length < 12) := by
    rintro ⟨h1, h2⟩
    rcases hr with hr | hr
    · rw [h1] at hr; cases hr
    · omega
  simp [Port.raise, h, this]

/-- BACKPRESSURE and PREEMPT leave an attempt alone. -/
theorem Port.raise_attempt_waits (r : Reason) (h : pt.line.attempting = true) (hr : r.cuts = false) :
    pt.raise r = pt.setReason r true := by
  unfold Line.attempting at h
  unfold Port.raise
  split at h <;> simp_all

/-- DISABLED and FAULTED cut an attempt. -/
theorem Port.raise_cuts (r : Reason) (h : pt.line.attempting = true) (hr : r.cuts = true) :
    pt.raise r = (pt.withLine .closing none).setReason r true := by
  unfold Line.attempting at h
  unfold Port.raise
  split at h <;> simp_all

/-- What DISABLED and FAULTED leave of what a line was doing, where no other reason held up an inbound frame before
its commit point. -/
theorem Port.raise_activity (r : Reason) (hc : r.cuts = true)
    (hg : ∀ bits low gone, pt.line.activity = .inbound bits low gone → bits.length < 12 →
      pt.line.reasons.any = false) :
    (pt.raise r).line.activity = pt.line.activity.disabled := by
  unfold Port.raise Activity.disabled Port.setReason Port.withLine Port.countHeldOff
  split
  · simp [*]
  · next bits low gone ha =>
    by_cases hb : bits.length < 12
    · simp only [hg _ _ _ ha hb, hb, and_self, if_true]
      split <;> simp [ha, hb]
    · simp [hb, ha]
  · simp [*]
  · rw [if_pos hc]
    split <;> simp_all

/-- What a reset leaves of what a line was doing. -/
theorem Activity.reset_eq (a : Activity) : a.reset = a.dropped := by cases a <;> rfl

/-- Once no reason stands, a line that a cut put in HELD is released, and no other line changes. -/
theorem Port.releaseCut_eq (h : pt.line.activity = .closing → pt.line.reasons.any = false) :
    pt.releaseCut = pt.withLine pt.line.activity.enabled pt.line.ready := by
  obtain ⟨_, _, _, _, _, _, _, _, _, _, _, _, ⟨activity, _, _⟩⟩ := pt
  cases activity
  case closing => simp [Port.releaseCut, Activity.enabled, show _ = false from h rfl]
  all_goals rfl

/-! ## Ready frames (R120, R126, R146) -/

/-- Where PREEMPT applies the inbound frame is held off; elsewhere nothing happens. -/
theorem Port.testPreempt_eq (hr : pt.line.reasons.any = false ∨ pt.line.beforeCommit = false) :
    pt.testPreempt = pt.preempted := by
  obtain ⟨pr, et, pd, ptm, st, inn, q, att, le, sf, cf, stats, ⟨act, rs, ready⟩⟩ := pt
  unfold Port.testPreempt Port.preempted
  cases ready with
  | none => simp
  | some r =>
    cases hp : r.probe with
    | true => simp [hp]
    | false =>
      by_cases hc : cf.precedence = .preempt
      · cases act with
        | inbound bits low gone =>
          by_cases hb : bits.length < 12 ∧ gone = false
          · obtain ⟨hb, rfl⟩ := hb
            have hr' : rs.any = false := by simpa [Line.beforeCommit, hb] using hr
            simp [hp, hc, Line.beforeCommit, hb, Port.raise, hr', Port.setReason, Port.withLine,
              Port.countHeldOff, Reasons.set]
          · have hb' : (decide (bits.length < 12) && !gone) = false := by
              cases gone <;> simp_all
            simp [hp, hc, Line.beforeCommit, hb']
        | _ => simp [hp, hc, Line.beforeCommit]
      · simp [hp, hc]

/-- A port outside PRESENT hands nothing to its line. -/
theorem Port.handHead_absent (h : pt.presence ≠ .present) : pt.handHead = pt := by
  unfold Port.handHead
  split <;> simp [h]

/-- The head entry is handed to a line that has no ready frame. -/
theorem Port.handHead_present {e : TxEntry} {rest : List TxEntry} (hp : pt.presence = .present)
    (hq : pt.queue = e :: rest) (hr : pt.line.ready = none) :
    pt.handHead = (pt.withLine pt.line.activity (some ⟨false, e.tag, e.data⟩)).testPreempt := by
  unfold Port.handHead
  simp [hp, hq, hr]

/-- A line that has a ready frame, or an empty queue, is handed nothing. -/
theorem Port.handHead_nothing (h : pt.line.ready ≠ none ∨ pt.queue = []) : pt.handHead = pt := by
  unfold Port.handHead
  split
  · next hr hq => rcases h with h | h <;> simp_all
  · rfl

/-- A withdrawn ready frame takes PREEMPT with it and changes nothing else. -/
theorem Port.withdrawReady_eq :
    pt.withdrawReady = { pt with
      line := ⟨pt.line.activity, { pt.line.reasons with preempt := false }, none⟩ } := rfl

/-! ## The silence timer and the intake (R136, R141, R142) -/

/-- Starting the silence timer changes nothing but the timer. -/
theorem Port.startSilence_eq (h : pt.line.attempting = false) :
    pt.startSilence = { pt with silenceTimer := pt.fullSilence } := by
  simp [Port.startSilence, Port.fullSilence, h]

/-- While an attempt is in progress the timer stays stopped. -/
theorem Port.startSilence_attempting (h : pt.line.attempting = true) :
    pt.startSilence = { pt with silenceTimer := none } := by
  simp [Port.startSilence, h]

/-- A frame joins the intake of a port whose line has nothing in progress: BACKPRESSURE follows the fill, and with it
the silence timer stops. -/
theorem Port.joinIntake_eq (f : Frame) (ha : pt.line.activity = .none)
    (hb : pt.line.reasons.backpressure = true ↔ 3 ≤ pt.intake.length)
    (hs : pt.line.reasons.backpressure = true → pt.silenceTimer = none) :
    pt.joinIntake f = pt.receives f := by
  unfold Port.joinIntake Port.receives
  by_cases hf : pt.intake.length < 4
  · rw [if_neg (show ¬ Config.portEntries ≤ pt.intake.length by simpa [Config.portEntries] using hf), if_pos hf]
    have hc : Config.backpressureFill = 3 := rfl
    unfold Port.fillChanged
    simp only [hc, List.length_append, List.length_cons, List.length_nil]
    by_cases h3 : 3 ≤ pt.intake.length
    · have h1 := hb.2 h3
      have h2 := hs h1
      have h4 : 3 ≤ pt.intake.length + 1 := by omega
      simp only [Nat.zero_add, h4, h1, h2, decide_true, if_true]
      obtain ⟨pr, et, pd, ptm, st, inn, q, att, le, sf, cf, stats, ⟨act, ⟨d, fl, bp, pe⟩, ready⟩⟩ := pt
      simp_all
    · have h1 : pt.line.reasons.backpressure = false := by
        cases h : pt.line.reasons.backpressure
        · rfl
        · exact absurd (hb.1 h) h3
      by_cases h2 : 3 ≤ pt.intake.length + 1
      · simp [h1, h2, Port.raise, ha, Port.setReason, Reasons.set]
      · simp only [Nat.zero_add, h2, h1, decide_false, if_false, Bool.false_eq_true]
        obtain ⟨pr, et, pd, ptm, st, inn, q, att, le, sf, cf, stats, ⟨act, ⟨d, fl, bp, pe⟩, ready⟩⟩ := pt
        simp only at h1
        rw [h1]
  · rw [if_pos (show Config.portEntries ≤ pt.intake.length by simpa [Config.portEntries] using hf), if_neg hf]

/-- A head frame that leaves the intake changes nothing but the intake, BACKPRESSURE and the silence timer, where
BACKPRESSURE followed the fill. -/
theorem Port.dropHead_eq (hb : pt.line.reasons.backpressure = true ↔ 3 ≤ pt.intake.length) :
    pt.dropHead =
      if pt.intake.length = 3 then
        ({ pt with intake := pt.intake.tail }.setReason .backpressure false).startSilence
      else { pt with intake := pt.intake.tail } := by
  have hc : Config.backpressureFill = 3 := rfl
  unfold Port.dropHead Port.fillChanged
  simp only [hc, List.length_tail]
  by_cases h3 : 3 ≤ pt.intake.length
  · have h1 := hb.2 h3
    by_cases h4 : pt.intake.length = 3
    · simp [h1, h4]
    · rw [if_pos (show 3 ≤ pt.intake.length - 1 by omega), if_neg h4]; simp [h1]
  · have h1 : pt.line.reasons.backpressure = false := by
      cases h : pt.line.reasons.backpressure
      · rfl
      · exact absurd (hb.1 h) h3
    rw [if_neg (show ¬ 3 ≤ pt.intake.length - 1 by omega), if_neg (show pt.intake.length ≠ 3 by omega)]
    simp [h1]

/-! ## The transmit queue and the presence state (R133, R137 to R139) -/

/-- A queue that is emptied: its RESULTs, and the ready frame withdrawn. -/
theorem State.emptyQueue_eq (p : PortIx) (outcome : SendOutcome) :
    s.emptyQueue p outcome =
      { s with
        trunk := s.trunk.resulted p outcome s.ports[p].attempts s.ports[p].queue
        ports := update s.ports p fun qt : Port =>
          { qt with
            queue := []
            attempts := 0
            line := ⟨qt.line.activity, { qt.line.reasons with preempt := false }, none⟩ } } := by
  simp only [State.emptyQueue, State.queueResults_eq]
  rfl

/-- The port that enters PRESENT, where no attempt is in progress and no PREEMPT stands. -/
theorem State.enterPresent_eq (p : PortIx) (ha : s.ports[p].line.attempting = false)
    (hp : s.ports[p].line.reasons.preempt = false) :
    s.enterPresent p =
      { s with
        ports := update s.ports p Port.arrives
        arbiter := s.arbiter.assertedAt s.ports[p].config.presenceLevel (.presence p) 1 s.timer } := by
  have h : update s.ports p (fun pt : Port =>
      { pt.withdrawReady with
        presence := .present
        probeDue := false
        probeTimer := none
        lineErrorRun := 0 }.startSilence) = update s.ports p Port.arrives := by
    apply table_ext
    intro i
    by_cases hi : p = i
    · subst hi
      generalize hq : s.ports[p] = qt at ha hp
      have hq' : s.ports[p.val] = qt := hq
      simp only [Fin.getElem_fin, update_getElem_self, hq']
      obtain ⟨pr, et, pd, ptm, st, inn, q, att, le, sf, cf, stats, ⟨act, ⟨d, fl, bp, pe⟩, ready⟩⟩ := qt
      simp only [Line.attempting] at ha hp
      simp [Port.arrives, Port.startSilence, Port.withdrawReady, Port.withLine, Port.setReason, Reasons.set,
        Line.attempting, ha, hp]
    · have hv : p.val ≠ i.val := fun e => hi (Fin.ext e)
      simp only [Fin.getElem_fin, update_getElem_other _ _ _ _ _ hv]
  simp only [State.enterPresent, State.assertOptional_eq, State.onPort, State.withPorts, State.withArbiter, h]
  rfl

/-- The port that enters FAULTED with nothing in progress on its line. -/
theorem State.enterFaulted_eq (p : PortIx) (code : Byte) (ha : s.ports[p].line.activity = .none) :
    s.enterFaulted p code =
      { s with
        ports := update s.ports p Port.faults
        trunk := s.trunk.resulted p .portFaulted s.ports[p].attempts s.ports[p].queue
        arbiter := s.arbiter.assertedAt s.ports[p].config.faultLevel (.portFault p) code s.timer } := by
  have hr := s.ports[p].raise_none .faulted ha
  have hr' : s.ports[p.val].raise .faulted = s.ports[p.val].setReason .faulted true := hr
  simp only [State.enterFaulted, State.emptyQueue_eq, State.assertOptional_eq, State.onPort, State.withPorts,
    State.withArbiter, update_update, Fin.getElem_fin, update_getElem_self, hr']
  congr 1
  apply table_ext
  intro i
  by_cases hi : p = i
  · subst hi
    simp only [Fin.getElem_fin, update_getElem_self, Function.comp_apply, hr']
    rfl
  · have hv : p.val ≠ i.val := fun e => hi (Fin.ext e)
    simp only [Fin.getElem_fin, update_getElem_other _ _ _ _ _ hv]

/-- The port that goes silent. -/
theorem State.goSilent_eq (p : PortIx) :
    s.goSilent p =
      { s with
        ports := update s.ports p fun qt : Port =>
          { qt with
            presence := .absent
            endpointType := none
            queue := []
            attempts := 0
            silenceTimer := none
            probeDue := true
            probeTimer := some 250
            line := ⟨qt.line.activity, { qt.line.reasons with preempt := false }, none⟩ }
        trunk := s.trunk.resulted p .portAbsent s.ports[p].attempts s.ports[p].queue
        arbiter := s.arbiter.assertedAt s.ports[p].config.presenceLevel (.presence p) 2 s.timer } := by
  simp only [State.goSilent, State.emptyQueue_eq, State.assertOptional_eq, State.onPort, State.withPorts,
    State.withArbiter, update_update]
  rfl

/-- The entries that FLUSH_TX removes leave FLUSHED, and the port keeps an entry in flight. -/
theorem State.flushTx_eq (p : PortIx) :
    s.flushTx p =
      { s with
        trunk := s.trunk.resulted p .flushed 0 s.ports[p].flushable
        ports := update s.ports p Port.flushTx } := by
  simp only [State.flushTx, State.queueResults_eq]
  rfl

end Sys2Proof.Machine
end

