-- ==== Sys2Proof/Laws/Signals.lean ====
section
/-! SUPPORT. For each shared operation of the signal unit and of the tally bank, one lemma that says what it can do. -/

namespace Sys2Proof.Machine

/-! ## Outputs (R95 to R102) -/

/-- A start on an IDLE output begins the burst (R95). -/
theorem Output.start_idle {o : Output} (x : Snapshot) (h : o.running = none) :
    o.start x = { o with running := some x.begin } := by simp [Output.start, h]

/-- A start on a running output waits, and displaces what waited (R96). -/
theorem Output.start_running {o : Output} {b : Burst} (x : Snapshot) (h : o.running = some b) :
    o.start x = { o with
      waiting := some x
      superseded := if o.waiting = none then o.superseded else satInc o.superseded } := by
  cases hw : o.waiting <;> simp [Output.start, h, hw]

/-- A start changes neither the refused count nor a running burst (R95). -/
theorem Output.start_frame (o : Output) (x : Snapshot) :
    (o.start x).refused = o.refused ∧ (o.running.isSome = true → (o.start x).running = o.running) := by
  cases h : o.running <;> simp [Output.start, h]

/-- The end of a phase changes neither count of the output (R99 to R102). -/
theorem Output.phaseEnds_frame (o : Output) (b : Burst) :
    (o.phaseEnds b).superseded = o.superseded ∧ (o.phaseEnds b).refused = o.refused := by
  unfold Output.phaseEnds Output.next
  split
  · split
    · simp
    · split <;> simp
  · split <;> simp

/-- The end of the last mark of a counted burst lets the waiting snapshot begin (R99, R100, R102). -/
theorem Output.phaseEnds_last (o : Output) {b : Burst} (h : b.endsAtPhase = true) : o.phaseEnds b = o.next := by
  simp only [Burst.endsAtPhase, Bool.and_eq_true, beq_iff_eq, Bool.not_eq_true', decide_eq_true_eq] at h
  obtain ⟨⟨hp, hc⟩, hr⟩ := h
  simp [Output.phaseEnds, hp, hc]
  intro h1
  omega

/-! ## Tallies (R81 to R88) -/

/-- The value after a step, by cases (R81). -/
theorem clampTally_eq (v : Int) :
    clampTally v = if 32767 < v then 32767 else if v < -32768 then -32768 else v := by
  unfold clampTally
  split
  · omega
  · split <;> omega

/-- A re-evaluation sets the two arms and nothing else (R86). -/
theorem Tally.reevaluate_eq (t : Tally) :
    t.reevaluate = { t with
      upperArm := upperArmAt t.upper t.hysteresis t.value
      lowerArm := lowerArmAt t.lower t.hysteresis t.value } := by
  obtain ⟨v, u, l, h, g, ua, la, n, c⟩ := t
  cases u <;> cases l <;> simp [Tally.reevaluate, upperArmAt, lowerArmAt] <;> omega

/-- The clear of a tally (R88, R90). -/
theorem Tally.clear_eq (t : Tally) : t.clear = t.emptied := by
  rw [Tally.clear, Tally.reevaluate_eq]
  rfl

/-- A step keeps what CONFIGURE_TALLY has written (R81). -/
theorem Tally.step_frame (t : Tally) (amount : Int) :
    (t.step amount).upper = t.upper ∧ (t.step amount).lower = t.lower ∧
    (t.step amount).hysteresis = t.hysteresis ∧ (t.step amount).target = t.target :=
  ⟨rfl, rfl, rfl, rfl⟩

/-- When the test of the upper arm is a crossing (R82). -/
theorem Tally.testUpper_crossed (t : Tally) :
    t.testUpper.2 = true ↔ ∃ u, t.upper = some u ∧ t.upperArm = true ∧ u ≤ t.value := by
  unfold Tally.testUpper
  cases t.upper <;> simp
  split <;> simp_all

/-- When the test of the lower arm is a crossing (R83). -/
theorem Tally.testLower_crossed (t : Tally) :
    t.testLower.2 = true ↔ ∃ l, t.lower = some l ∧ t.lowerArm = true ∧ t.value ≤ l := by
  unfold Tally.testLower
  cases t.lower <;> simp
  split <;> simp_all

/-- A step of a tally whose thresholds are in order crosses one of them at most (R83). -/
theorem Tally.crossed_length (t : Tally) (amount : Int)
    (h : ∀ u l, t.upper = some u → t.lower = some l → l < u) : (t.crossed amount).length ≤ 1 := by
  have hn : ¬ ((t.add amount).testUpper.2 = true ∧ (t.add amount).testLower.2 = true) := by
    rw [Tally.testUpper_crossed, Tally.testLower_crossed]
    rintro ⟨⟨u, hu, -, h1⟩, l, hl, -, h2⟩
    have := h u l hu hl
    omega
  simp only [Tally.crossed]
  split <;> split <;> simp_all

end Sys2Proof.Machine
end

