-- ==== Sys2Proof/Laws/Classify.lean ====
section
/-! SUPPORT. For each action of a classification, and for the head frame that leaves its intake, one lemma that says what
it can do, in the terms of Safety.lean. -/

namespace Sys2Proof.Machine

variable (s : State) (pt : Port)

/-- The head frame leaves the intake of a port whose BACKPRESSURE follows its fill (R65, R136, R142). -/
theorem Port.dropHead_headGone (hb : pt.line.reasons.backpressure = true ↔ 3 ≤ pt.intake.length) :
    pt.dropHead = pt.headGone := by
  rw [pt.dropHead_eq hb, Port.headGone]
  by_cases h : pt.intake.length = 3
  · rw [if_pos h, if_pos ⟨hb.2 (by omega), by omega⟩]
    have ha (r : Reasons) : Line.attempting { pt.line with reasons := r } = pt.line.attempting := rfl
    simp [Port.startSilence, Port.setReason, Reasons.set, ha]
  · rw [if_neg h, if_neg (by rintro ⟨h1, h2⟩; have := hb.1 h1; omega)]

/-- An ANSWER where the line has a ready frame exactly when the queue has a head (R71, R144, R146). -/
theorem Port.answer_answers (tag : Tag) (data : Byte)
    (hq : pt.presence = .present → (pt.line.ready = none ↔ pt.queue = []))
    (hr : pt.line.reasons.any = false ∨ pt.line.beforeCommit = false) :
    pt.answer tag data = pt.answers tag data := by
  unfold Port.answer Port.answers Port.joinQueue
  have hc : Config.portEntries = 4 := rfl
  rw [hc]
  split
  · next h =>
    obtain ⟨hp, -⟩ := h
    by_cases he : pt.queue = []
    · rw [if_pos he]
      have hn := (hq hp).2 he
      rw [Port.handHead_present { pt with queue := pt.queue ++ [⟨tag, data, none⟩] } (e := ⟨tag, data, none⟩)
        (rest := []) hp (by simp [he]) hn, Port.testPreempt_eq]
      · simp [Port.withLine, he]
      · exact hr
    · rw [if_neg he, Port.handHead_nothing]
      left
      simpa using fun h => he ((hq hp).1 h)
  · rfl

/-- A TALLY step and its assertions (R69, R84). -/
theorem State.tallyStep_eq (p : PortIx) (f : Frame) (i : TallyIx) (amount : Int) (e : EntryIx) :
    s.tallyStep p f i amount = s.acted p f e (.tally i amount) := by
  have fold : ∀ (l : LevelIx) (data : List Byte) (t : State),
      data.foldl (fun t d => t.assertLevel l (.tally i p) d f.time) t =
        t.withArbiter (data.foldl (fun a d => a.assertedAt (some l) (.tally i p) d f.time) t.arbiter) := by
    intro l data
    induction data with
    | nil => intro t; rfl
    | cons d rest ih => intro t; rw [List.foldl_cons, ih, State.assertLevel_eq]; rfl
  have none_ : ∀ (data : List Byte) (a : Arbiter),
      data.foldl (fun a d => a.assertedAt none (.tally i p) d f.time) a = a := by
    intro data
    induction data with
    | nil => intro a; rfl
    | cons d rest ih => intro a; exact ih a
  unfold State.tallyStep
  simp only [State.acted]
  cases ht : s.tallies[i].target with
  | none => simp only [none_]; rfl
  | some l => simp only [fold]; rfl

/-- An action other than FORWARD does to its owner what its rule says (R66, R69 to R71). -/
theorem State.act_acted (p : PortIx) (f : Frame) (i : EntryIx) (relays : Bool) (a : Action) (ha : a ≠ .forward)
    (hq : s.ports[p].presence = .present → (s.ports[p].line.ready = none ↔ s.ports[p].queue = []))
    (hr : s.ports[p].line.reasons.any = false ∨ s.ports[p].line.beforeCommit = false) :
    s.act p f i relays a = s.acted p f i a := by
  cases a with
  | discard => rfl
  | assert l => exact s.assertLevel_eq ..
  | withdraw l => rfl
  | forward => exact absurd rfl ha
  | tally t amount => exact s.tallyStep_eq ..
  | signal o x =>
    simp only [State.act, State.signalAction, State.acted]
    cases s.patterns[x] <;> rfl
  | answer tag data =>
    simp only [State.act, State.acted, State.onPort, State.withPorts]
    congr 1
    exact update_congr _ p ((s.ports[p]).answer_answers tag data hq hr)

end Sys2Proof.Machine
end

