-- ==== Sys2Proof/Laws/Operands.lean ====
section
/-! SUPPORT. How each argument byte is read: which bytes are in range, and what the byte of a value reads as. -/

namespace Sys2Proof.Machine

theorem index?_isSome (n : Nat) (b : Byte) : (index? n b).isSome = true ↔ b.toNat < n := by
  unfold index?; split <;> simp_all

theorem index?_none (n : Nat) (b : Byte) : index? n b = none ↔ n ≤ b.toNat := by
  unfold index?; split <;> simp_all

theorem index?_some {n : Nat} {b : Byte} (h : b.toNat < n) : index? n b = some ⟨b.toNat, h⟩ := by
  unfold index?; rw [dif_pos h]

/-- An index reads back from its byte. -/
theorem index?_indexByte {n : Nat} (hn : n ≤ 256) (i : Fin n) : index? n (indexByte i) = some i := by
  have h : (indexByte i).toNat = i.val := by simp [indexByte, BitVec.toNat_ofNat]; omega
  rw [index?_some (by rw [h]; exact i.isLt)]
  exact congrArg some (Fin.ext h)

theorem optionalIndex?_isSome (n : Nat) (b : Byte) :
    (optionalIndex? n b).isSome = true ↔ absentOrBelow n b = true := by
  unfold optionalIndex? absentOrBelow absentCode
  split <;> simp_all [index?_isSome]

/-- An optional index reads back from its byte. -/
theorem optionalIndex?_optionalByte {n : Nat} (hn : n ≤ 255) (i : Option (Fin n)) :
    optionalIndex? n (optionalByte i) = some i := by
  cases i with
  | none => simp [optionalIndex?, optionalByte, absentCode]
  | some i =>
    have h : (BitVec.ofNat 8 i.val : Byte) ≠ 0xFF := by
      intro e
      have := congrArg BitVec.toNat e
      simp [BitVec.toNat_ofNat] at this
      omega
    have := index?_indexByte (by omega : n ≤ 256) i
    simp only [indexByte] at this
    simp only [optionalIndex?, optionalByte, absentCode, this, Option.map_some]
    rw [if_neg h]

theorem byte_toNat_eq {b : Byte} {n : Nat} (hn : n < 256) : b.toNat = n ↔ b = BitVec.ofNat 8 n := by
  constructor
  · intro h; apply BitVec.eq_of_toNat_eq; simp [BitVec.toNat_ofNat]; omega
  · intro h; subst h; simp [BitVec.toNat_ofNat]; omega

theorem setting?_isSome (b : Byte) : (setting? b).isSome = true ↔ b.toNat ≤ 1 := by
  revert b; decide

/-- A setting reads back from its byte. -/
@[simp] theorem setting?_settingByte (x : Bool) : setting? (settingByte x) = some x := by cases x <;> decide

theorem bank?_isSome (b : Byte) : (bank? b).isSome = true ↔ b.toNat ≤ 1 := by
  revert b; decide

/-- A bank reads back from its code. -/
@[simp] theorem bank?_code (x : Bank) : bank? x.code = some x := by cases x <;> decide

theorem mode?_isSome (b : Byte) : (mode? b).isSome = true ↔ b.toNat ≤ 2 := by
  revert b; decide

/-- A mode reads back from its code. -/
@[simp] theorem mode?_code (x : Mode) : mode? x.code = some x := by cases x <;> decide

theorem rate?_isSome (b : Byte) : (rate? b).isSome = true ↔ b.toNat ≤ 7 := by
  unfold rate? LinkRate.all
  rw [Option.isSome_iff_ne_none, ne_eq, List.getElem?_eq_none_iff]
  simp; omega

/-- A rate reads back from its code. -/
@[simp] theorem rate?_code (x : LinkRate) : rate? x.code = some x := by cases x <;> decide

theorem tag?_isSome (b : Byte) : (tag? b).isSome = true ↔ b.toNat ≤ 6 := by
  unfold tag?; split <;> simp_all

theorem tagMatch?_isSome (b : Byte) : (tagMatch? b).isSome = true ↔ b = 0xFF ∨ b.toNat ≤ 6 := by
  unfold tagMatch? absentCode
  split <;> simp_all [tag?_isSome]

/-- A tag of 0 to 6 reads back from its byte. -/
theorem tag?_setWidth {t : Tag} (h : t ≠ 7) : tag? (t.setWidth 8) = some t := by
  revert t; decide

theorem tone?_isSome (b : Byte) : (tone? b).isSome = true ↔ b.toNat ≤ 3 := by
  revert b; decide

theorem step?_isSome (b : Byte) : (step? b).isSome = true ↔ b.toNat ≠ 0 ∧ b.toNat ≠ 128 := by
  revert b; decide

/-- The checks of a request give the reason that they failed. -/
theorem inRange_none {α : Type} (s : State) {x : Option α} (k : α → Executed) (h : x.isSome = false) :
    inRange s x k = refuse s .range := by
  cases x <;> simp_all [inRange]

theorem inRange_some {α : Type} (s : State) {x : Option α} {a : α} (k : α → Executed) (h : x = some a) :
    inRange s x k = k a := by subst h; rfl

end Sys2Proof.Machine
end

