-- ==== Sys2Proof/Laws/PerInstr.lean ====
section
/-! SUPPORT. The statements made of each row of the table as syntax, one lemma per row. -/

namespace Sys2Proof.Laws

open Sys2Proof Sys2Proof.Machine

/-- The message that a well-formed row stands for has a payload that the Length byte can announce (R161, R194). -/
def PayloadFits.Statement (i : Instr) : Prop :=
  i.wellFormed = true → ∀ (spare : Byte) (m : TrunkMessage), encodeMessage spare i = some m → m.payload.length ≤ 40

theorem PayloadFits.coldReset : PayloadFits.Statement .coldReset := by
  intro _ _ _ e; cases e

theorem PayloadFits.breakDetected : PayloadFits.Statement .breakDetected := by
  intro _ _ _ e; cases e

theorem PayloadFits.breakEnd : PayloadFits.Statement .breakEnd := by
  intro _ _ _ e; cases e

theorem PayloadFits.lengthError : PayloadFits.Statement .lengthError := by
  intro _ _ _ e; cases e

theorem PayloadFits.gapAbort : PayloadFits.Statement .gapAbort := by
  intro _ _ _ e; cases e

theorem PayloadFits.checkError : PayloadFits.Statement .checkError := by
  intro _ _ _ e; cases e

theorem PayloadFits.malformed (type sequence : Byte) (payload : List Byte) :
    PayloadFits.Statement (.malformed type sequence payload) := by
  intro h _ _ e; cases e
  simp only [Instr.wellFormed, Bool.and_eq_true, decide_eq_true_eq] at h
  exact h.1

theorem PayloadFits.take (number : Byte) : PayloadFits.Statement (.take number) := by
  intro _ _ _ e; cases e; simp

theorem PayloadFits.done (value : Byte) : PayloadFits.Statement (.done value) := by
  intro _ _ _ e; cases e; simp

theorem PayloadFits.doneCurrent : PayloadFits.Statement .doneCurrent := by
  intro _ _ _ e; cases e; simp

theorem PayloadFits.recall (value : Byte) : PayloadFits.Statement (.recall value) := by
  intro _ _ _ e; cases e; simp

theorem PayloadFits.send (sequence port tag data confirm : Byte) :
    PayloadFits.Statement (.send sequence port tag data confirm) := by
  intro _ _ _ e; cases e; simp

theorem PayloadFits.commandUnknown (sequence code : Byte) (arguments : List Byte) :
    PayloadFits.Statement (.commandUnknown sequence code arguments) := by
  intro h _ _ e; cases e
  simp only [Instr.wellFormed, Bool.and_eq_true, decide_eq_true_eq] at h
  exact Nat.add_le_add_right h.1 1

theorem PayloadFits.identify (sequence : Byte) (arguments : List Byte) :
    PayloadFits.Statement (.identify sequence arguments) := by
  intro h _ _ e; cases e; exact Nat.add_le_add_right (of_decide_eq_true h) 1

theorem PayloadFits.getStatus (sequence : Byte) (arguments : List Byte) :
    PayloadFits.Statement (.getStatus sequence arguments) := by
  intro h _ _ e; cases e; exact Nat.add_le_add_right (of_decide_eq_true h) 1

theorem PayloadFits.setLink (sequence : Byte) (arguments : List Byte) :
    PayloadFits.Statement (.setLink sequence arguments) := by
  intro h _ _ e; cases e; exact Nat.add_le_add_right (of_decide_eq_true h) 1

theorem PayloadFits.resetArbiter (sequence : Byte) (rest : List Byte) :
    PayloadFits.Statement (.resetArbiter sequence rest) := by
  intro h _ _ e; cases e; exact Nat.add_le_add_right (of_decide_eq_true h) 2

theorem PayloadFits.resetTraffic (sequence : Byte) (rest : List Byte) :
    PayloadFits.Statement (.resetTraffic sequence rest) := by
  intro h _ _ e; cases e; exact Nat.add_le_add_right (of_decide_eq_true h) 2

theorem PayloadFits.resetConfig (sequence : Byte) (rest : List Byte) :
    PayloadFits.Statement (.resetConfig sequence rest) := by
  intro h _ _ e; cases e; exact Nat.add_le_add_right (of_decide_eq_true h) 2

theorem PayloadFits.configureLevel (sequence : Byte) (arguments : List Byte) :
    PayloadFits.Statement (.configureLevel sequence arguments) := by
  intro h _ _ e; cases e; exact Nat.add_le_add_right (of_decide_eq_true h) 1

theorem PayloadFits.configureBand (sequence : Byte) (arguments : List Byte) :
    PayloadFits.Statement (.configureBand sequence arguments) := by
  intro h _ _ e; cases e; exact Nat.add_le_add_right (of_decide_eq_true h) 1

theorem PayloadFits.setMasksAssign (sequence : Byte) (rest : List Byte) :
    PayloadFits.Statement (.setMasksAssign sequence rest) := by
  intro h _ _ e; cases e; exact Nat.add_le_add_right (of_decide_eq_true h) 2

theorem PayloadFits.setMasksMask (sequence : Byte) (rest : List Byte) :
    PayloadFits.Statement (.setMasksMask sequence rest) := by
  intro h _ _ e; cases e; exact Nat.add_le_add_right (of_decide_eq_true h) 2

theorem PayloadFits.setMasksUnmask (sequence : Byte) (rest : List Byte) :
    PayloadFits.Statement (.setMasksUnmask sequence rest) := by
  intro h _ _ e; cases e; exact Nat.add_le_add_right (of_decide_eq_true h) 2

theorem PayloadFits.assertLevel (sequence : Byte) (arguments : List Byte) :
    PayloadFits.Statement (.assertLevel sequence arguments) := by
  intro h _ _ e; cases e; exact Nat.add_le_add_right (of_decide_eq_true h) 1

theorem PayloadFits.withdrawLevel (sequence : Byte) (arguments : List Byte) :
    PayloadFits.Statement (.withdrawLevel sequence arguments) := by
  intro h _ _ e; cases e; exact Nat.add_le_add_right (of_decide_eq_true h) 1

theorem PayloadFits.readLevel (sequence : Byte) (arguments : List Byte) :
    PayloadFits.Statement (.readLevel sequence arguments) := by
  intro h _ _ e; cases e; exact Nat.add_le_add_right (of_decide_eq_true h) 1

theorem PayloadFits.setArbiter (sequence : Byte) (arguments : List Byte) :
    PayloadFits.Statement (.setArbiter sequence arguments) := by
  intro h _ _ e; cases e; exact Nat.add_le_add_right (of_decide_eq_true h) 1

theorem PayloadFits.readArbiter (sequence : Byte) (arguments : List Byte) :
    PayloadFits.Statement (.readArbiter sequence arguments) := by
  intro h _ _ e; cases e; exact Nat.add_le_add_right (of_decide_eq_true h) 1

theorem PayloadFits.loadSelector (sequence : Byte) (arguments : List Byte) :
    PayloadFits.Statement (.loadSelector sequence arguments) := by
  intro h _ _ e; cases e; exact Nat.add_le_add_right (of_decide_eq_true h) 1

theorem PayloadFits.clearShadow (sequence : Byte) (arguments : List Byte) :
    PayloadFits.Statement (.clearShadow sequence arguments) := by
  intro h _ _ e; cases e; exact Nat.add_le_add_right (of_decide_eq_true h) 1

theorem PayloadFits.copyActive (sequence : Byte) (arguments : List Byte) :
    PayloadFits.Statement (.copyActive sequence arguments) := by
  intro h _ _ e; cases e; exact Nat.add_le_add_right (of_decide_eq_true h) 1

theorem PayloadFits.commitSelectors (sequence : Byte) (arguments : List Byte) :
    PayloadFits.Statement (.commitSelectors sequence arguments) := by
  intro h _ _ e; cases e; exact Nat.add_le_add_right (of_decide_eq_true h) 1

theorem PayloadFits.readSelector (sequence : Byte) (arguments : List Byte) :
    PayloadFits.Statement (.readSelector sequence arguments) := by
  intro h _ _ e; cases e; exact Nat.add_le_add_right (of_decide_eq_true h) 1

theorem PayloadFits.configureTally (sequence : Byte) (arguments : List Byte) :
    PayloadFits.Statement (.configureTally sequence arguments) := by
  intro h _ _ e; cases e; exact Nat.add_le_add_right (of_decide_eq_true h) 1

theorem PayloadFits.readTally (sequence : Byte) (arguments : List Byte) :
    PayloadFits.Statement (.readTally sequence arguments) := by
  intro h _ _ e; cases e; exact Nat.add_le_add_right (of_decide_eq_true h) 1

theorem PayloadFits.loadPattern (sequence : Byte) (arguments : List Byte) :
    PayloadFits.Statement (.loadPattern sequence arguments) := by
  intro h _ _ e; cases e; exact Nat.add_le_add_right (of_decide_eq_true h) 1

theorem PayloadFits.startSignal (sequence : Byte) (arguments : List Byte) :
    PayloadFits.Statement (.startSignal sequence arguments) := by
  intro h _ _ e; cases e; exact Nat.add_le_add_right (of_decide_eq_true h) 1

theorem PayloadFits.stopSignal (sequence : Byte) (arguments : List Byte) :
    PayloadFits.Statement (.stopSignal sequence arguments) := by
  intro h _ _ e; cases e; exact Nat.add_le_add_right (of_decide_eq_true h) 1

theorem PayloadFits.readSignal (sequence : Byte) (arguments : List Byte) :
    PayloadFits.Statement (.readSignal sequence arguments) := by
  intro h _ _ e; cases e; exact Nat.add_le_add_right (of_decide_eq_true h) 1

theorem PayloadFits.configurePort (sequence : Byte) (arguments : List Byte) :
    PayloadFits.Statement (.configurePort sequence arguments) := by
  intro h _ _ e; cases e; exact Nat.add_le_add_right (of_decide_eq_true h) 1

theorem PayloadFits.portControlEnable (sequence port : Byte) (rest : List Byte) :
    PayloadFits.Statement (.portControlEnable sequence port rest) := by
  intro h _ _ e; cases e; exact Nat.add_le_add_right (of_decide_eq_true h) 3

theorem PayloadFits.portControlDisable (sequence port : Byte) (rest : List Byte) :
    PayloadFits.Statement (.portControlDisable sequence port rest) := by
  intro h _ _ e; cases e; exact Nat.add_le_add_right (of_decide_eq_true h) 3

theorem PayloadFits.portControlProbeNow (sequence port : Byte) (rest : List Byte) :
    PayloadFits.Statement (.portControlProbeNow sequence port rest) := by
  intro h _ _ e; cases e; exact Nat.add_le_add_right (of_decide_eq_true h) 3

theorem PayloadFits.portControlFlushTx (sequence port : Byte) (rest : List Byte) :
    PayloadFits.Statement (.portControlFlushTx sequence port rest) := by
  intro h _ _ e; cases e; exact Nat.add_le_add_right (of_decide_eq_true h) 3

theorem PayloadFits.readPort (sequence : Byte) (arguments : List Byte) :
    PayloadFits.Statement (.readPort sequence arguments) := by
  intro h _ _ e; cases e; exact Nat.add_le_add_right (of_decide_eq_true h) 1

theorem PayloadFits.offer : PayloadFits.Statement .offer := by
  intro _ _ _ e; cases e

theorem PayloadFits.takeTimerExpiry : PayloadFits.Statement .takeTimerExpiry := by
  intro _ _ _ e; cases e

theorem PayloadFits.classify : PayloadFits.Statement .classify := by
  intro _ _ _ e; cases e

theorem PayloadFits.phaseEnd (output : OutputIx) : PayloadFits.Statement (.phaseEnd output) := by
  intro _ _ _ e; cases e

theorem PayloadFits.inboundFrame (port : PortIx) : PayloadFits.Statement (.inboundFrame port) := by
  intro _ _ _ e; cases e

theorem PayloadFits.frameBroken (port : PortIx) : PayloadFits.Statement (.frameBroken port) := by
  intro _ _ _ e; cases e

theorem PayloadFits.probeTimerExpiry (port : PortIx) : PayloadFits.Statement (.probeTimerExpiry port) := by
  intro _ _ _ e; cases e

theorem PayloadFits.probe (port : PortIx) (clkHigh dataHigh : Bool) :
    PayloadFits.Statement (.probe port clkHigh dataHigh) := by
  intro _ _ _ e; cases e

theorem PayloadFits.requestToSend (port : PortIx) (clkHigh dataHigh : Bool) :
    PayloadFits.Statement (.requestToSend port clkHigh dataHigh) := by
  intro _ _ _ e; cases e

theorem PayloadFits.startBit (port : PortIx) : PayloadFits.Statement (.startBit port) := by
  intro _ _ _ e; cases e

theorem PayloadFits.attemptOutcome (port : PortIx) : PayloadFits.Statement (.attemptOutcome port) := by
  intro _ _ _ e; cases e

theorem PayloadFits.noResponse (port : PortIx) : PayloadFits.Statement (.noResponse port) := by
  intro _ _ _ e; cases e

theorem PayloadFits.cutEnd (port : PortIx) : PayloadFits.Statement (.cutEnd port) := by
  intro _ _ _ e; cases e

theorem PayloadFits.silenceExpiry (port : PortIx) : PayloadFits.Statement (.silenceExpiry port) := by
  intro _ _ _ e; cases e

theorem PayloadFits.transmitBegin : PayloadFits.Statement .transmitBegin := by
  intro _ _ _ e; cases e

theorem PayloadFits.transmitEnd : PayloadFits.Statement .transmitEnd := by
  intro _ _ _ e; cases e

theorem PayloadFits.inboundFrameBegins (port : PortIx) : PayloadFits.Statement (.inboundFrameBegins port) := by
  intro _ _ _ e; cases e

theorem PayloadFits.clockGiven (port : PortIx) (edge : Edge) (dataHigh : Bool) :
    PayloadFits.Statement (.clockGiven port edge dataHigh) := by
  intro _ _ _ e; cases e

theorem PayloadFits.characterComplete (value : Byte) (framingError : Bool) :
    PayloadFits.Statement (.characterComplete value framingError) := by
  intro _ _ _ e; cases e

theorem PayloadFits.partTimerTick : PayloadFits.Statement .partTimerTick := by
  intro _ _ _ e; cases e

theorem PayloadFits.rstnReleased : PayloadFits.Statement .rstnReleased := by
  intro _ _ _ e; cases e

end Sys2Proof.Laws
end

