-- ==== Sys2Proof/Laws/Rows.lean ====
section
/-! SUPPORT. What the rows of the table have in common: the rows that are requests, and the rows of one command. -/

namespace Sys2Proof.Machine

/-- Every row that is a sequenced request is taken by the request unit as one message. -/
theorem exec_request {i : Instr} {sequence : Byte} (h : i.requestSequence = some sequence) :
    ∃ code toSend body, ∀ s, exec i s = .next (s.onMessage fun t => t.sequenced sequence code toSend body) := by
  cases i <;> simp only [Instr.requestSequence, Option.some.injEq, reduceCtorEq] at h <;> subst h <;>
    exact ⟨_, _, _, fun _ => rfl⟩

/-- The code of a command names it. -/
theorem commandOf_code (c : Command) : commandOf c.code = some c := by cases c <;> decide

/-- A COMMAND of a command, whichever row of the table it is, is carried out as that command. -/
theorem exec_commandRow (c : Command) (sequence : Byte) (arguments : List Byte) (s : State) :
    exec (commandRow c sequence arguments) s = .next (s.command c sequence (runCommand c arguments)) := by
  have hany : cmdAny c.code arguments = runCommand c arguments := by
    funext t; simp only [cmdAny, commandOf_code]
  have hunknown : exec (.commandUnknown sequence c.code arguments) s =
      .next (s.command c sequence (runCommand c arguments)) := by
    rw [← hany]; rfl
  cases c
  case reset =>
    cases arguments with
    | nil => exact hunknown
    | cons scope rest =>
      simp only [commandRow]
      split
      · subst_vars; rfl
      · split
        · subst_vars; rfl
        · split
          · subst_vars; rfl
          · exact hunknown
  case setMasks =>
    cases arguments with
    | nil => exact hunknown
    | cons operation rest =>
      simp only [commandRow]
      split
      · subst_vars; rfl
      · split
        · subst_vars; rfl
        · split
          · subst_vars; rfl
          · exact hunknown
  case portControl =>
    match arguments, hunknown with
    | [], hunknown => exact hunknown
    | [_], hunknown => exact hunknown
    | port :: action :: rest, hunknown =>
      simp only [commandRow]
      split
      · subst_vars; rfl
      · split
        · subst_vars; rfl
        · split
          · subst_vars; rfl
          · split
            · subst_vars; rfl
            · exact hunknown
  all_goals rfl

/-- An admitted COMMAND of a command, by what the command gives. -/
theorem exec_commandRow_replied {s : State} {sequence : Byte} (h : s.Admits sequence) (c : Command)
    (arguments : List Byte) {t : State} {status : Status} {data : List Byte}
    (hc : runCommand c arguments s.heard = ⟨t, status, data, none⟩) :
    exec (commandRow c sequence arguments) s = .next (t.replied sequence c.code status data) := by
  rw [exec_commandRow, s.command_replied h c _ hc]

end Sys2Proof.Machine
end

