-- ==== Sys2Proof/Tests/Slice0.lean ====
section
/-! SUPPORT. The model's own tests: ill-formed commands, the worked examples of the spec, and for every statement with
hypotheses a state that meets them, clause by clause. Every expected value is the spec's, but for the published check value of the CRC. -/

namespace Sys2Proof.Tests

open Sys2Proof Sys2Proof.Machine

set_option maxRecDepth 8000
set_option synthInstance.maxSize 1000

/-- The state after a command. -/
def after (i : Instr) (s : State) : State :=
  match exec i s with
  | .next t => t
  | .fault _ => s
  | .refused _ => s

/-- The state after commands, one after another. -/
def run (l : List Instr) (s : State) : State := l.foldl (fun t i => after i t) s

/-- The part after reset, with an empty control lane. -/
def calm : State := { State.reset with trunk := Trunk.cold }

/-- What stands in the control lane. -/
def lane (s : State) : List ControlMessage := s.trunk.control.map ControlEntry.message

/-- The status and the result data of the stored REPLY. -/
def answered (s : State) : Option (Status × List Byte) := s.memory.map fun m => (m.reply.status, m.reply.data)

/-! ## Ill-formed commands are refused, one for each check -/

theorem test_malformed_payload_of_41 : (Instr.malformed 0 0 (List.replicate 41 0)).wellFormed = false := by decide
theorem test_malformed_passes_the_form_check : (Instr.malformed 1 0 [0]).wellFormed = false := by decide
theorem test_done_names_current : (Instr.done 0x80).wellFormed = false := by decide
theorem test_unknown_of_40_arguments : (Instr.commandUnknown 0 0 (List.replicate 40 0)).wellFormed = false := by decide
theorem test_unknown_names_identify : (Instr.commandUnknown 0 1 []).wellFormed = false := by decide
theorem test_unknown_names_a_scope : (Instr.commandUnknown 0 4 [1]).wellFormed = false := by decide
theorem test_unknown_names_an_operation : (Instr.commandUnknown 0 0x12 [3]).wellFormed = false := by decide
theorem test_unknown_names_an_action : (Instr.commandUnknown 0 0x39 [9, 4]).wellFormed = false := by decide
theorem test_identify_of_40_arguments : (Instr.identify 0 (List.replicate 40 0)).wellFormed = false := by decide
theorem test_reset_of_40_arguments : (Instr.resetConfig 0 (List.replicate 39 0)).wellFormed = false := by decide
theorem test_control_of_40_arguments :
    (Instr.portControlEnable 0 0 (List.replicate 38 0)).wellFormed = false := by decide

/-! ## The formats of chapter 10 -/

/-- R194: a SEND occupies ten characters, the marker and Length 06h first. -/
theorem test_send_is_ten_characters :
    (TrunkMessage.characters ⟨0x04, 9, [0, 1, 2, 0]⟩).length = 10 ∧
    (TrunkMessage.characters ⟨0x04, 9, [0, 1, 2, 0]⟩).take 4 = [0xC3, 0x06, 0x04, 9] := by decide

/-- R159: the CRC of the nine ASCII digits with this polynomial, all-ones start and no reflection, published as 29B1h. -/
theorem test_crc : crc [0x31, 0x32, 0x33, 0x34, 0x35, 0x36, 0x37, 0x38, 0x39] = 0x29B1 := by decide

/-- R109: the three worked parities. -/
theorem test_parity : parityBit 2 53 = false ∧ parityBit 7 0 = false ∧ parityBit 4 200 = true := by decide

/-- Table 10-10: start bit, tag and data least significant bit first, parity, stop bit. -/
theorem test_frame_clocks :
    frameBits 2 53 = [false, false, true, false, true, false, true, false, true, true, false, false, false, true] := by
  decide

/-- R200: how a cleared entry reads. -/
theorem test_cleared_entry : Selector.cleared.bytes = [0x00, 0x00, 0xFF, 0x00, 0xFF, 0x00, 0x00] := by decide

/-- Section 10.8: the DETAIL of the TAKE of offer 19. -/
theorem test_detail_bytes :
    (Detail.taken 19 5 ⟨.selector 12 2 1 0, 65, 66, 1000, 1020, 2, false⟩).bytes =
      [1, 0x07, 19, 5, 0x01, 0x0F, 0x0C, 0x02, 0x01, 0x41, 0x42, 0x03, 0xE8, 0x03, 0xFC, 0x02, 0, 0] := by decide

/-- R196: absent parts of a DETAIL are 0, and the level FFh. -/
theorem test_stale_bytes : (Detail.stale 18).bytes = [3, 1, 18, 0xFF] ++ List.replicate 14 0 := by decide

/-- R198: the RELAY of a frame that the default disposition forwarded. -/
theorem test_relay_bytes : (Relay.mk 4 1 10 5010 none).payload = [4, 1, 10, 0x13, 0x92, 0xFF] := by decide

/-- Words of the wire that no two rows share: R164, R196, R199, Table 10-7. -/
theorem test_messages_decode :
    decodeMessage ⟨1, 0, [7]⟩ = .take 7 ∧ decodeMessage ⟨2, 0, [0x80]⟩ = .doneCurrent ∧
    decodeMessage ⟨2, 0, [0x81]⟩ = .done 0x81 ∧ decodeMessage ⟨3, 0, [16]⟩ = .recall 16 ∧
    decodeMessage ⟨4, 5, [1, 2, 3, 0]⟩ = .send 5 1 2 3 0 ∧ decodeMessage ⟨5, 5, [0x02, 1]⟩ = .getStatus 5 [1] ∧
    decodeMessage ⟨5, 5, [0x04, 2]⟩ = .resetTraffic 5 [] ∧ decodeMessage ⟨5, 5, [0x04, 4]⟩ = .commandUnknown 5 4 [4] ∧
    decodeMessage ⟨5, 5, [0x39, 7, 3]⟩ = .portControlProbeNow 5 7 [] ∧
    decodeMessage ⟨5, 5, []⟩ = .malformed 5 5 [] ∧ decodeMessage ⟨0x41, 5, [1, 2, 3, 4]⟩ = .malformed 0x41 5 [1, 2, 3, 4] := by
  decide

/-- R159, R163, R186: the second Check byte of an IDENTIFY draws its REPLY (Table 9-5). -/
theorem test_identify_on_the_wire :
    let check := crc [3, 5, 1, 0x01]
    answered (after (.characterComplete (loByte check) false)
      { calm with trunk := { calm.trunk with receiver := .body [3, 5, 1, 0x01, hiByte check] false } }) =
      some (.ok, [0x5C, 0x08, 0x01, 8, 16, 48, 8, 4, 16, 16, 24]) := by decide

/-! ## Levels and the arbiter (chapters 1 and 2) -/

/-- The example of R22: with 0-3 masked and 4-15 unmasked, UNMASK of 0 and 1, then MASK of 8. -/
theorem test_set_masks :
    let s := run [.setMasksAssign 1 [0x00, 0x0F], .setMasksUnmask 2 [0x00, 0x03]] calm
    answered s = some (.ok, [0x00, 0x0C]) ∧ answered (after (.setMasksMask 3 [0x01, 0x00]) s) = some (.ok, [0x01, 0x0C]) := by
  decide

/-- The part of section 2.11: level 5 unmasked, number 17, and entry 12's record at 1000 ms. -/
def lapsing : State :=
  { calm with
    timer := 1000
    arbiter := { calm.arbiter with
      number := 17
      levels := update calm.arbiter.levels 5 fun _ =>
        ⟨false, false, some ⟨.selector 12 2 1 0, 65, 65, 1000, 1000, 1, false⟩⟩ } }

/-- The state, the number and the lapse counts. -/
def arbiterRow (s : State) : ArbiterState × Byte × Nat × Word :=
  (s.arbiter.state, s.arbiter.number, s.arbiter.consecutiveLapses, s.arbiter.totalLapses)

/-- Table 2-8 up to the lapse: the offers, their NOTICEs and the count in the second. -/
theorem test_table_2_8_offers :
    let s := run [.offer, .transmitBegin, .transmitEnd] lapsing
    let t := run [.takeTimerExpiry, .offer] { s with
      arbiter := s.arbiter.asserted 5 (.selector 12 2 1 0) 66 1020 }
    arbiterRow s = (.awaiting 5 50, 18, 0, 0) ∧ arbiterRow t = (.presenting 5, 19, 1, 1) ∧
    lane t = [.notice 19 5 .selector 2] := by decide

/-- Table 2-8 from offer 19 on: STALE, TAKEN with the record of both assertions, DONE. -/
theorem test_table_2_8_takes :
    let s := { lapsing with arbiter := { lapsing.arbiter.asserted 5 (.selector 12 2 1 0) 66 1020 with
      number := 19, state := .awaiting 5 50, consecutiveLapses := 1, totalLapses := 1 } }
    let t := run [.take 18, .take 19] s
    lane t = [.detail (.stale 18), .detail (.taken 19 5 ⟨.selector 12 2 1 0, 65, 66, 1000, 1020, 2, false⟩)] ∧
    arbiterRow t = (.idle, 19, 0, 1) ∧ (after (.done 5) t).arbiter.stack = [] ∧
    lane (after (.done 5) t) = lane t := by decide

/-- Table 2-9: the masked level's TAKE is VOID, and level 11 is offered behind the DETAIL. -/
theorem test_table_2_9 :
    let r : Record := ⟨.host, 0, 0, 0, 0, 1, false⟩
    let a := { calm.arbiter with
      mode := .selective
      number := 41
      state := .awaiting 9 50
      stack := [⟨14, r⟩]
      levels := update (update (update calm.arbiter.levels 14 fun _ => ⟨false, false, none⟩) 9 fun _ =>
        ⟨true, false, some r⟩) 11 fun _ => ⟨false, false, some r⟩ }
    let s := run [.take 41, .offer] { calm with arbiter := a }
    arbiterRow s = (.presenting 11, 42, 0, 0) ∧ lane s = [.detail (.void 41 9), .notice 42 11 .host 1] := by decide

/-- R41, R36: a TAKE in QUIESCENT releases the arbiter and then gives STALE. -/
theorem test_take_in_quiescent :
    let s := after (.take 3) { calm with arbiter := { calm.arbiter with state := .quiescent, consecutiveLapses := 4 } }
    s.arbiter.state = .idle ∧ s.arbiter.consecutiveLapses = 0 ∧ lane s = [.detail (.stale 3)] := by decide

/-- R40: at the lapse limit the arbiter is QUIESCENT, and its ALERT carries the counts and the level. -/
theorem test_quiescence :
    let s := after .takeTimerExpiry { calm with arbiter := { calm.arbiter with
      state := .awaiting 5 50, consecutiveLapses := 3, totalLapses := 3 } }
    s.arbiter.state = .quiescent ∧ lane s = [.alert 0 (.quiescent 4 4 5)] := by decide

/-- R35, R12: with auto-done on, the TAKE itself completes the level and rotates its band. -/
theorem test_auto_done :
    let r : Record := ⟨.host, 0, 0, 0, 0, 1, false⟩
    let s := after (.take 0) { calm with arbiter := { calm.arbiter with
      state := .presenting 6
      bands := update calm.arbiter.bands 1 fun _ => ⟨true, 3⟩
      levels := update calm.arbiter.levels 6 fun _ => ⟨false, true, some r⟩ } }
    s.arbiter.stack = [] ∧ s.arbiter.bands[1].pointer = 2 ∧ s.arbiter.rank 7 = 4 := by decide

/-- R19, R44: in SELECTIVE a DONE naming CURRENT removes the unmasked level nearest the top. -/
theorem test_done_current :
    let r : Record := ⟨.host, 0, 0, 0, 0, 1, false⟩
    let s := after .doneCurrent { calm with arbiter := { calm.arbiter with
      mode := .selective
      stack := [⟨2, r⟩, ⟨7, r⟩, ⟨9, r⟩]
      levels := update calm.arbiter.levels 7 fun _ => ⟨false, false, none⟩ } }
    s.arbiter.stack = [⟨2, r⟩, ⟨9, r⟩] ∧ lane s = [] := by decide

/-- R46: a value that names no level is carried as received. -/
theorem test_done_refused :
    lane (run [.done 0x20, .doneCurrent] calm) =
      [.alert 0 (.doneRefused .notInService 0x20), .alert 0 (.doneRefused .noneInService 0x80)] := by decide

/-- R47: the in-service record again, and a refusal. -/
theorem test_recall :
    let r : Record := ⟨.host, 1, 2, 3, 4, 2, true⟩
    lane (run [.recall 9, .recall 8] { calm with arbiter := { calm.arbiter with stack := [⟨9, r⟩] } }) =
      [.detail (.recalled 9 r), .alert 0 (.recallRefused 8)] := by decide

/-- R4, R23: the count saturates, and a second source sets mixed. -/
theorem test_assert_level :
    let s := after (.assertLevel 1 [9, 8]) { calm with arbiter := { calm.arbiter with
      levels := update calm.arbiter.levels 9 fun _ =>
        ⟨true, false, some ⟨.presence 2, 1, 2, 3, 4, 255, false⟩⟩ } }
    s.arbiter.levels[9].pending = some ⟨.presence 2, 1, 8, 3, 0, 255, true⟩ ∧ answered s = some (.ok, [255]) := by
  decide

/-! ## The classifier (chapter 3) -/

/-- The bank of Table 3-8. -/
def exampleBank : Vector Slot 48 :=
  let put (i : EntryIx) (e : Selector) (v : Vector Slot 48) := update v i fun _ => ⟨e, 0⟩
  put 4 ⟨true, true, 0x03, some 2, 0, 255, .tally 1 1⟩ <| put 5 ⟨true, false, 0x01, some 2, 48, 57, .assert 6⟩ <|
    put 6 ⟨true, false, 0xFF, none, 0, 255, .forward⟩ <|
    put 9 ⟨true, false, 0x01, some 2, 0, 255, .signal 1 3⟩ calm.classifier.bankA

/-- The part with these frames in its intakes. -/
def holding (s : State) (frames : PortIx → List Frame) : State :=
  { s with ports := tabulate fun p : PortIx => { s.ports[p] with intake := frames p } }

/-- The part of section 3.10, with frames a and b at port 0 and frame c at port 1. -/
def keypads : State :=
  holding { calm with classifier := { calm.classifier with bankA := exampleBank, generation := 3 } } fun p =>
    if p = 0 then [⟨2, 53, 5000⟩, ⟨2, 70, 5010⟩] else if p = 1 then [⟨2, 53, 5012⟩] else []

/-- Table 3-9: the collected lists of the three frames. -/
theorem test_table_3_9_lists :
    keypads.classifier.collected 0 ⟨2, 53, 5000⟩ = [4, 5] ∧ keypads.classifier.collected 0 ⟨2, 70, 5010⟩ = [4, 6] ∧
    keypads.classifier.collected 1 ⟨2, 53, 5012⟩ = [4, 6] := by decide

/-- Table 3-9: what the classification of frame a hands over, and its hits. -/
theorem test_table_3_9_frame_a :
    let s := after .classify keypads
    s.tallies[1].value = 1 ∧ s.tallies[1].steps = 1 ∧ s.trunk.relays = [] ∧
    s.arbiter.levels[6].pending = some ⟨.selector 5 0 2 3, 53, 53, 5000, 5000, 1, false⟩ ∧
    s.classifier.bankA[4].hits = 1 ∧ s.classifier.bankA[5].hits = 1 ∧ s.classifier.bankA[6].hits = 0 ∧
    s.ports[0].intake = [⟨2, 70, 5010⟩] := by decide

/-- Table 3-9: the RELAY of frame c. -/
theorem test_table_3_9_relay :
    (after .classify { keypads with classifier := { keypads.classifier with grant := 1 } }).trunk.relays =
      [⟨1, 2, 53, 5012, some 6⟩] := by decide

/-- R63: two ASSERTs of a chain count twice, and a second TALLY step sees the first. -/
theorem test_chain_acts_in_order :
    let entry (goesOn : Bool) (a : Action) : Slot := ⟨⟨true, goesOn, 0xFF, none, 0, 255, a⟩, 0⟩
    let bank := update (update (update (update calm.classifier.bankA 0 fun _ => entry true (.assert 6)) 1
      fun _ => entry true (.tally 1 100)) 2 fun _ => entry true (.tally 1 (-3))) 7 fun _ => entry false (.assert 6)
    let s := after .classify { keypads with classifier := { keypads.classifier with bankA := bank } }
    (s.arbiter.levels[6].pending.map fun r => (r.count, r.mixed)) = some (2, true) ∧ s.tallies[1].value = 97 ∧
    s.tallies[1].steps = 2 := by decide

/-- The example of R58: grants to ports 6, 7 and 2, with the pointer at 7, 0 and 3. -/
theorem test_grants_go_round :
    let s := holding { calm with classifier := { calm.classifier with grant := 6 } } fun p =>
      if p = 2 ∨ p = 6 ∨ p = 7 then [⟨0, 0, 0⟩] else []
    let t := after .classify s
    let u := after .classify t
    (s.granted, t.classifier.grant) = (some 6, 7) ∧ (t.granted, u.classifier.grant) = (some 7, 0) ∧
    (u.granted, (after .classify u).classifier.grant) = (some 2, 3) := by decide

/-- R62, R59, R64: with the relay lane full, HOLD defers the frame and DROP counts a relay drop. -/
theorem test_full_lane :
    let frame (p : PortIx) : List Frame := if p = 4 then [⟨1, 10, 7⟩] else []
    let s := holding { calm with trunk := { calm.trunk with relays := List.replicate 24 ⟨0, 0, 0, 0, none⟩ } } frame
    let held := { s with ports := update s.ports 4 fun pt => { pt with config := { pt.config with overflow := .hold } } }
    (after .classify held).ports[4].intake = [⟨1, 10, 7⟩] ∧ (after .classify held).classifier.deferred[4] = true ∧
    (after .classify held).granted = none ∧ (after .classify s).ports[4].intake = [] ∧
    (after .classify s).ports[4].stats.relayDrops = 1 := by decide

/-- R72, R200, R75, R76: an entry is loaded in the shadow bank, committed, and read back. -/
theorem test_load_and_commit :
    let s := run [.loadSelector 1 [12, 0xC4, 0x40, 3, 1, 1, 2, 0xFF], .commitSelectors 2 []] calm
    s.classifier.bankB[12].entry = ⟨true, true, 0x40, some 3, 1, 1, .tally 2 (-1)⟩ ∧
    s.classifier.active = .b ∧ answered s = some (.ok, [0, 1, 1]) ∧
    answered (after (.readSelector 3 [1, 12, 0]) s) =
      some (.ok, [1, 1, 0, 1, 0xC4, 0x40, 3, 1, 1, 2, 0xFF, 0, 0]) := by decide

/-- R72: a step of -128, an empty port set and a set reserved bit give RANGE. -/
theorem test_load_selector_range :
    answered (after (.loadSelector 1 [0, 0x84, 1, 0, 0, 0, 0, 0x80]) calm) = some (.range, []) ∧
    answered (after (.loadSelector 1 [0, 0x80, 0, 0, 0, 0, 0, 0]) calm) = some (.range, []) ∧
    answered (after (.loadSelector 1 [0, 0x88, 1, 0, 0, 0, 0, 0]) calm) = some (.range, []) := by decide

/-- R73, R74: CLEAR_SHADOW and COPY_ACTIVE. -/
theorem test_shadow :
    let s := after (.copyActive 1 []) keypads
    s.classifier.bankB[5].entry.action = .assert 6 ∧
    (after (.clearShadow 2 []) s).classifier.bankB[5].entry = Selector.cleared := by decide

/-! ## Tallies and signals (chapters 4 and 5) -/

/-- The tally of section 4.7. -/
def clicks : Tally := ⟨3, some 5, none, 2, some 8, true, false, 0, 0⟩

/-- Table 4-4: value, upper arm, step count and crossing count after each of the eight steps. -/
theorem test_table_4_4 :
    ([1, 1, 1, -1, -1, -1, 1, 1].foldl (fun (l : List Tally) (d : Int) => (l.headD clicks).step d :: l) []).reverse.map
        (fun t => (t.value, t.upperArm, t.steps, t.crossings)) =
      [(4, true, 1, 0), (5, false, 2, 1), (6, false, 3, 1), (5, false, 4, 1), (4, false, 5, 1), (3, true, 6, 1),
        (4, true, 7, 1), (5, false, 8, 2)] ∧
    clicks.crossed 1 = [] ∧ (clicks.step 1).crossed 1 = [1] := by decide

/-- R85: a threshold at the end of the range is crossed by saturation. -/
theorem test_saturating_crossing :
    let t : Tally := ⟨32700, some 32767, none, 1, none, true, false, 0, 0⟩
    (t.step 127).value = 32767 ∧ t.crossed 127 = [1] := by decide

/-- R87, R88: the settings of section 4.7 written and read back, and the clear. -/
theorem test_configure_tally :
    let s := after (.configureTally 1 [2, 0x05, 0, 5, 0, 0, 2, 8]) calm
    answered s = some (.ok, [0, 0, 1]) ∧
    answered (after (.readTally 2 [2, 1]) s) = some (.ok, [0, 0, 0, 0, 0, 0x0D, 0, 5, 0, 0, 2, 8]) := by decide

/-- The patterns of Table 5-5. -/
def beeps : State :=
  { calm with patterns := update (update (update calm.patterns 3 fun _ => some ⟨800, 1200, 3, .two, false, some 10⟩)
      5 fun _ => some ⟨2000, 0, 10, .steady, true, none⟩) 7 fun _ => some ⟨5000, 5000, 0, .one, false, some 11⟩ }

/-- Phase, running index, remaining, waiting index, superseded and refused of output 1. -/
def outputRow (s : State) : Option (Phase × PatternIx × Nat) × Option PatternIx × Word × Word :=
  (s.outputs[1].running.map fun b => (b.phase, b.copy.index, b.remaining), s.outputs[1].waiting.map Snapshot.index,
    s.outputs[1].superseded, s.outputs[1].refused)

/-- Output 1 plays pattern 3, with this pattern waiting. -/
def playing (phase : Phase) (remaining : Nat) (waiting : Option Snapshot) : State :=
  { beeps with outputs := update beeps.outputs 1 fun o =>
    { o with running := some ⟨⟨3, ⟨800, 1200, 3, .two, false, some 10⟩⟩, phase, remaining, 800⟩, waiting := waiting } }

/-- Table 5-6 at 0, 80 and 200 ms. -/
theorem test_table_5_6_phases :
    outputRow (after (.startSignal 1 [1, 3]) beeps) = (some (.mark, 3, 3), none, 0, 0) ∧
    outputRow (after (.phaseEnd 1) (playing .mark 3 none)) = (some (.space, 3, 2), none, 0, 0) ∧
    outputRow (after (.phaseEnd 1) (playing .space 2 none)) = (some (.mark, 3, 2), none, 0, 0) := by decide

/-- Table 5-6 at 300 ms: pattern 7 replaces the waiting pattern 5. -/
theorem test_table_5_6_superseded :
    outputRow (after (.startSignal 1 [1, 7]) (playing .space 1 (some ⟨5, ⟨2000, 0, 10, .steady, true, none⟩⟩))) =
      (some (.space, 3, 1), some 7, 1, 0) := by decide

/-- Table 5-6 at 480 ms: completion of pattern 3, and the continuous pattern 7 begins. -/
theorem test_table_5_6_completion :
    let s := after (.phaseEnd 1) (playing .mark 1 (some ⟨7, ⟨5000, 5000, 0, .one, false, some 11⟩⟩))
    outputRow s = (some (.mark, 7, 0), none, 0, 0) ∧
    s.arbiter.levels[10].pending = some ⟨.signal 1, 3, 3, 0, 0, 1, false⟩ := by decide

/-- Table 5-5: pattern 5 is one mark of 20000 units (R95, R100), and its end ends the burst. -/
theorem test_long_mark :
    let s := after (.startSignal 1 [1, 5]) beeps
    s.outputs[1].running.map Burst.timeLeft = some 20000 ∧ outputRow (after (.phaseEnd 1) s) = (none, none, 0, 0) := by
  decide

/-- R92, R201: the nine bytes of Table 10-9, and RANGE for a mark time of 0. -/
theorem test_load_pattern :
    (after (.loadPattern 1 [3, 0x03, 0x20, 0x04, 0xB0, 0, 3, 2, 0, 10]) calm).patterns[3] =
      some ⟨800, 1200, 3, .two, false, some 10⟩ ∧
    answered (after (.loadPattern 1 [3, 0, 0, 0, 1, 0, 3, 2, 0, 10]) calm) = some (.range, []) := by decide

/-- R97, R104, R105: an unloaded pattern, a stop and a read. -/
theorem test_signal_commands :
    answered (after (.startSignal 1 [1, 9]) beeps) = some (.unloaded, []) ∧
    answered (run [.startSignal 1 [1, 7], .readSignal 2 [1]] beeps) = some (.ok, [1, 7, 0, 0, 0xFF, 0, 0, 0, 0]) ∧
    answered (run [.startSignal 1 [1, 7], .stopSignal 2 [1]] beeps) = some (.ok, [7, 0xFF]) := by decide

/-! ## Ports and lines (chapters 6 and 7) -/

/-- Port 0 as given, every other port as after reset. -/
def withPort (pt : Port) : State := { calm with ports := update calm.ports 0 fun _ => pt }

/-- A PRESENT port with these entries, the head handed to the line. -/
def present (queue : List TxEntry) : Port :=
  { Port.cold with
    presence := .present
    probeDue := false
    probeTimer := none
    silenceTimer := some 2000
    queue := queue
    line := { Line.cold with ready := readyHead queue } }

/-- The port at the end of the slot of an attempt with this ready frame, answered with ACK or not. -/
def answeredPort (pt : Port) (r : Ready) (attempts : Nat) (ack : Bool) : Port :=
  { pt with
    attempts := attempts
    silenceTimer := none
    line := ⟨.outbound 15 false ack, Reasons.noReason, some r⟩ }

/-- The port at the end of the slot of an inbound frame of these bits. -/
def framedPort (pt : Port) (bits : List Bool) : Port :=
  { pt with line := { pt.line with activity := .inbound (bits ++ [true]) false false } }

/-- R134, R133, R149: a probe answered with ACK brings the port to PRESENT with ARRIVED. -/
theorem test_probe :
    let t := after (.attemptOutcome 0) (withPort (answeredPort
      { Port.cold with probeDue := false, config := { PortConfig.default with presenceLevel := some 2 } } ⟨true, 7, 0⟩ 0 true))
    t.ports[0].presence = .present ∧ t.ports[0].probeTimer = none ∧
    t.arbiter.levels[2].pending = some ⟨.presence 0, 1, 1, 0, 0, 1, false⟩ := by decide

/-- R115, R140: a good frame in the intake. -/
theorem test_inbound :
    let s := after (.inboundFrame 0) (withPort (framedPort (present []) (frameBits 2 53)))
    s.ports[0].intake = [⟨2, 53, 0⟩] ∧ s.ports[0].stats.framesReceived = 1 ∧ s.ports[0].line.state = .quiet := by decide

/-- R115, R138: a frame of wrong parity is a line error, and the eighth in a row faults the port. -/
theorem test_line_errors :
    let s := after (.inboundFrame 0) (withPort (framedPort
      { present [] with lineErrorRun := 7, config := { PortConfig.default with faultLevel := some 3 } }
      ((frameBits 2 53).set 12 true)))
    s.ports[0].presence = .faulted ∧ s.ports[0].lineErrorRun = 8 ∧ s.ports[0].line.state = .held ∧
    s.arbiter.levels[3].pending.map Record.firstData = some 1 := by decide

/-- R146, R147: the third attempt, not answered, ends the entry with FAILED_NAK. -/
theorem test_failed_nak :
    let t := after (.attemptOutcome 0)
      { withPort (answeredPort (present [⟨1, 2, some 9⟩]) ⟨false, 1, 2⟩ 3 false) with
        trunk := { calm.trunk with reservations := 1 } }
    lane t = [.result 0 9 1 2 .failedNak 3] ∧ t.trunk.reservations = 0 ∧ t.ports[0].sendFailureRun = 1 ∧
    t.ports[0].queue = [] := by decide

/-- R147, R148: the ACK of the first attempt delivers the entry. -/
theorem test_delivered :
    let t := after (.attemptOutcome 0)
      { withPort (answeredPort (present [⟨1, 2, some 9⟩]) ⟨false, 1, 2⟩ 1 true) with
        trunk := { calm.trunk with reservations := 1 } }
    lane t = [.result 0 9 1 2 .delivered 1] ∧ t.ports[0].stats.framesSent = 1 := by decide

/-- R142, R113: the third frame in the intake holds the line, and a classification lets it go. -/
theorem test_backpressure :
    let s := after (.inboundFrame 0)
      (withPort (framedPort { present [] with intake := [⟨1, 1, 0⟩, ⟨1, 1, 0⟩] } (frameBits 1 1)))
    s.ports[0].line.reasons.first = some .backpressure ∧ s.ports[0].line.state = .held ∧
    s.ports[0].silenceTimer = none ∧ (after .classify s).ports[0].silenceTimer = some 2000 := by decide

/-- R126, R117: under PREEMPT an inbound frame before its commit point is held off, and the line then sends. -/
theorem test_preempt :
    let s := after (.inboundFrameBegins 0) (withPort { present [⟨1, 2, none⟩] with
      config := { PortConfig.default with precedence := .preempt } })
    s.ports[0].line.reasons.preempt = true ∧ s.ports[0].stats.preemptedInbound = 1 ∧
    (run [.requestToSend 0 false true, .startBit 0] s).ports[0].line.reasons.preempt = false := by decide

/-- R137, R139: silence empties the queue with PORT_ABSENT and asserts SILENT. -/
theorem test_silence :
    let s := after (.silenceExpiry 0) { withPort { present [⟨1, 2, some 9⟩] with
      config := { PortConfig.default with presenceLevel := some 2 } } with
      trunk := { calm.trunk with reservations := 1 } }
    s.ports[0].presence = .absent ∧ lane s = [.result 0 9 1 2 .portAbsent 0] ∧
    s.arbiter.levels[2].pending.map Record.firstData = some 2 := by decide

/-- R118, R140: a broken frame is one line error. -/
theorem test_frame_broken :
    let s := after (.frameBroken 0)
      (withPort { present [] with line := { Line.cold with activity := .inbound [false] false false } })
    s.ports[0].stats.lineErrors = 1 ∧ s.ports[0].line.state = .quiet := by decide

/-- R129, R123: a reset of scope TRAFFIC cuts an attempt, and the line is QUIET again after the close of the cut. -/
theorem test_cut :
    let s := after (.resetTraffic 1 [])
      (withPort { present [⟨1, 2, none⟩] with attempts := 1, line := ⟨.awaitClock, Reasons.noReason, some ⟨false, 1, 2⟩⟩ })
    s.ports[0].line.state = .outbound ∧ s.ports[0].line.pullsClk = true ∧
    (after (.cutEnd 0) s).ports[0].line.state = .quiet := by decide

/-- R129: after a DISABLE that cut an attempt, a reset of scope CONFIG releases the line after the 100 µs of the cut, and
at once where they have passed; ENABLE releases it at once (R152). -/
theorem test_cut_waits_under_config :
    let s := after (.portControlDisable 1 0 [])
      (withPort { present [⟨1, 2, none⟩] with attempts := 1, line := ⟨.awaitClock, Reasons.noReason, some ⟨false, 1, 2⟩⟩ })
    let t := after (.resetConfig 2 []) s
    s.ports[0].line.state = .held ∧ t.ports[0].line.state = .outbound ∧
    (after (.cutEnd 0) t).ports[0].line.state = .quiet ∧
    (after (.cutEnd 0) s).ports[0].line.state = .held ∧
    (after (.resetConfig 2 []) (after (.cutEnd 0) s)).ports[0].line.state = .quiet ∧
    (after (.portControlEnable 2 0 []) s).ports[0].line.state = .quiet := by decide

/-- R108, R120, R121: the start bit, and a clock of an attempt. -/
theorem test_clocks :
    let s := after (.requestToSend 0 true true) (withPort (present [⟨1, 2, none⟩]))
    let t := after (.startBit 0) s
    s.ports[0].line.pullsClk = true ∧ s.ports[0].attempts = 1 ∧ t.ports[0].line.pullsClk = false ∧
    t.ports[0].line.pullsData = true ∧
    (after (.clockGiven 0 .falling false) t).ports[0].line.activity = .outbound 0 true false := by decide

/-- R122: an attempt without a clock. -/
theorem test_no_response :
    (after (.noResponse 0) (withPort { present [⟨1, 2, none⟩] with
      attempts := 1, line := ⟨.awaitClock, Reasons.noReason, some ⟨false, 1, 2⟩⟩ })).ports[0].line.ready =
      some ⟨false, 1, 2⟩ := by decide

/-- R134: the expiry of the probe timer, and the probe. -/
theorem test_probe_timer :
    let s := after (.probeTimerExpiry 0) (withPort { Port.cold with probeDue := false })
    s.ports[0].probeDue = true ∧ (after (.probe 0 true true) s).ports[0].line.ready = some ⟨true, 7, 0⟩ ∧
    (after (.probe 0 true false) s).ports[0].line.ready = none := by decide

/-- R144: the status of each check, and the fill. -/
theorem test_send :
    answered (after (.send 1 8 0 0 0) calm) = some (.range, []) ∧
    answered (after (.send 1 0 7 0 0) (withPort (present []))) = some (.range, []) ∧
    answered (after (.send 1 0 0 0 0) calm) = some (.notReady, []) ∧
    answered (after (.send 1 0 0 0 1) (withPort (present []))) = some (.ok, [1]) ∧
    (after (.send 1 0 0 0 1) (withPort (present []))).trunk.reservations = 1 := by decide

/-- R152, R153: the presence state and the count of each action. -/
theorem test_port_control :
    answered (after (.portControlDisable 1 0 []) calm) = some (.ok, [0, 0]) ∧
    answered (run [.portControlDisable 1 0 [], .portControlEnable 2 0 []] calm) = some (.ok, [1, 0]) ∧
    answered (after (.portControlProbeNow 1 0 []) (withPort (present []))) = some (.notReady, []) ∧
    answered (after (.portControlFlushTx 1 0 []) (withPort (present [⟨1, 2, none⟩, ⟨1, 2, none⟩]))) =
      some (.ok, [2, 2]) := by decide

/-- R151, R154: a limit of 99 is out of range, 100 is not; a fresh port reads ABSENT, QUIET and all 0. -/
theorem test_configure_and_read_port :
    answered (after (.configurePort 1 [0, 7, 0, 99, 0xFF, 0xFF]) calm) = some (.range, []) ∧
    (after (.configurePort 1 [0, 7, 0, 100, 3, 0xFF]) calm).ports[0].config =
      ⟨.discard, .hold, .preempt, 100, some 3, none⟩ ∧
    answered (after (.readPort 1 [0, 1]) calm) = some (.ok, 1 :: List.replicate 24 0) := by decide

/-! ## The trunk and the requests (chapters 8 and 9) -/

/-- The part of section 8.11. -/
def guarded (control : Nat) (relays controlRun : Nat) (sequence : Byte) : State :=
  { calm with trunk := { calm.trunk with
    control := List.replicate control ⟨.detail (.stale 0), none⟩
    relays := List.replicate relays ⟨0, 0, 0, 0, none⟩
    controlRun := controlRun
    sequence := sequence } }

/-- The Sequence carried, the fills and the guard count. -/
def laneRow (s : State) : Option Byte × Nat × Nat × Nat :=
  (s.trunk.sending.map Transmission.sequence, s.trunk.control.length, s.trunk.relays.length, s.trunk.controlRun)

/-- Table 8-11 at C1, D1, C9 and D2. -/
theorem test_table_8_11 :
    laneRow (after .transmitBegin (guarded 10 24 0 200)) = (some 200, 9, 24, 1) ∧
    laneRow (after .transmitBegin (guarded 2 24 8 208)) = (some 208, 2, 23, 0) ∧
    laneRow (after .transmitBegin (guarded 2 23 0 209)) = (some 209, 1, 23, 1) ∧
    laneRow (after .transmitBegin (guarded 0 23 2 211)) = (some 211, 0, 22, 0) := by decide

/-- R161, R163: a Length of 43 is a length error, and a wrong check a check error. -/
theorem test_discarded :
    (run (arriving [0xC3, 43]) calm).trunk.lengthErrors = 1 ∧
    (run (arriving [0xC3, 2, 1, 0, 0, 0]) calm).trunk.checkErrors = 1 ∧
    (run [.characterComplete 0xC3 false, .gapAbort] calm).trunk.gapAborts = 1 ∧
    (run [.lengthError, .checkError] calm).trunk.checkErrors = 1 := by decide

/-- R157: a start bit at space, the data bits of C3h least significant first, a stop bit at mark; and TTX at mark. -/
theorem test_character_levels :
    characterLevels 0xC3 = [false, true, true, false, false, false, false, true, true, true] ∧ calm.trunk.ttx 0 = true ∧
    (List.range 10).map (after .transmitBegin (guarded 1 0 0 0)).trunk.ttx = characterLevels 0xC3 := by decide

/-- R157, R162: a space through the stop bit is one character with a framing error, and no further one starts before
mark. -/
theorem test_framing_error_waits :
    charactersOn .looking (List.replicate 13 false ++ true :: characterLevels 5) = [(0, true), (5, false)] ∧
    (after (.characterComplete 0 true) calm).trunk.awaitsMark = true ∧
    (run [.characterComplete 0 true, .characterComplete 5 false] calm).trunk.awaitsMark = false := by decide

/-- R164, R172: the ALERT of a malformed message. -/
theorem test_malformed : lane (after (.malformed 0x41 7 [1, 2, 3, 4]) calm) = [.alert 0 (.malformed 0x41 7 4)] := by
  decide

/-- R165, R173: a break empties the sequence memory, and its end is announced at the rate in force. -/
theorem test_break :
    let s := run [.identify 1 [], .breakDetected] calm
    s.memory = none ∧ lane s = [] ∧ lane (after .breakEnd s) = [.alert 0 (.started .linkBreak .r115200)] := by decide

/-- R177, R173, R187: RSTN, and the part timer. -/
theorem test_cold :
    let s := run [.partTimerTick, .coldReset, .partTimerTick, .offer, .rstnReleased] calm
    s.timer = 0 ∧ lane s = [.alert 0 (.started .cold .r115200)] ∧ (after .partTimerTick s).timer = 1 := by decide

/-- R180, R178: a repeat draws the stored REPLY with the repeat flag set. -/
theorem test_duplicate :
    lane (run [.getStatus 5 [1], .send 5 0 0 0 0] calm) =
      [.reply ⟨5, 2, false, .ok, false, List.replicate 3 0 ++ [0x55, 0x55] ++ List.replicate 12 0 ++ [4, 0, 0, 0]⟩,
        .reply ⟨5, 2, false, .ok, true, List.replicate 3 0 ++ [0x55, 0x55] ++ List.replicate 12 0 ++ [4, 0, 0, 0]⟩] := by
  decide

/-- R189, R158: the rate changes at the last byte of the REPLY. -/
theorem test_set_link :
    let s := after (.setLink 1 [7]) calm
    s.trunk.rate = .r115200 ∧ (run [.transmitBegin, .transmitEnd] s).trunk.rate = .r921600 := by decide

/-- R185: UNKNOWN, BAD_LENGTH and RANGE in their order. -/
theorem test_statuses :
    answered (after (.commandUnknown 1 0x05 [1]) calm) = some (.unknown, []) ∧
    answered (after (.setArbiter 1 [9]) calm) = some (.badLength, []) ∧
    answered (after (.setArbiter 1 [3, 0, 5, 1]) calm) = some (.range, []) ∧
    answered (after (.commandUnknown 1 0x04 [4]) calm) = some (.range, []) := by decide

/-- R190: under ARBITER the REPLY joins behind what is queued, under CONFIG it stands alone. -/
theorem test_reset_scopes :
    (lane (run [.identify 1 [], .resetArbiter 2 []] calm)).length = 2 ∧
    lane (run [.identify 1 [], .resetConfig 2 []] calm) = [.reply ⟨2, 4, false, .ok, false, [3]⟩] := by decide

/-- R23, R49: a masked level at reset, and the poll result. -/
theorem test_reads :
    answered (after (.readLevel 1 [5]) calm) = some (.ok, [1, 1, 5, 0xFF] ++ List.replicate 28 0) ∧
    (answered (after (.readArbiter 1 []) lapsing)).map (fun x => x.2.getLast?) = some (some 5) := by decide

/-- R21, R20, R48: what the three settings commands write. -/
theorem test_settings :
    (after (.configureLevel 1 [3, 0, 1]) calm).arbiter.levels[3] = ⟨false, true, none⟩ ∧
    (after (.configureBand 1 [2, 1, 0]) calm).arbiter.bands[2] = ⟨true, 0⟩ ∧
    (after (.setArbiter 1 [2, 0x07, 0xD0, 15]) calm).arbiter.takeLimit = 2000 ∧
    answered (after (.withdrawLevel 1 [5]) lapsing) = some (.ok, [1]) := by decide

/-! ## A state and operands that meet the hypotheses of each statement -/

/-- No free unreserved entry. -/
def crowded : State := guarded 16 0 0 0

/-- RSTN is low. -/
def low : State := { calm with rstnLow := true }

/-- A break is in progress. -/
def broken : State := { calm with trunk := { calm.trunk with receiver := .inBreak } }

/-- The sequence memory holds Sequence 5. -/
def remembering (s : State) : State := { s with memory := some ⟨5, ⟨5, 1, false, .ok, false, []⟩⟩ }

/-- A request record. -/
def aRecord : Record := ⟨.host, 1, 2, 3, 4, 2, false⟩

/-- One level as given; the arbiter in this state, with number 7. -/
def withLevel (l : LevelIx) (x : Level) (state : ArbiterState) : State :=
  { calm with arbiter := { calm.arbiter with
    levels := update calm.arbiter.levels l fun _ => x, state := state, number := 7 } }

/-- Levels 2 (masked), 7 (unmasked) and 9 (masked) in service, in this mode. -/
def serving (mode : Mode) : State :=
  { calm with arbiter := { calm.arbiter with
    mode := mode
    stack := [⟨2, aRecord⟩, ⟨7, aRecord⟩, ⟨9, aRecord⟩]
    levels := update calm.arbiter.levels 7 fun _ => ⟨false, false, none⟩ } }

theorem witness_StepRunsTheFrontCommand :
    { calm with pending := [.offer, .classify] }.pending = .offer :: [.classify] ∧ calm.pending = [] := by decide

theorem witness_RowsSurviveTheWire :
    (Instr.identify 1 (List.replicate 39 0)).wellFormed = true ∧
    encodeMessage 0 (.identify 1 (List.replicate 39 0)) = some ⟨5, 1, 1 :: List.replicate 39 0⟩ ∧
    (Instr.take 255).wellFormed = true ∧ encodeMessage 9 (.take 255) = some ⟨1, 9, [255]⟩ := by decide

theorem witness_MessagesAreRows :
    (TrunkMessage.mk 5 0 (List.replicate 40 0)).payload.length ≤ 40 ∧ (TrunkMessage.mk 0 0 []).payload.length ≤ 40 := by
  decide

theorem witness_CharactersMakeTheMessage :
    calm.rstnLow = false ∧ calm.trunk.receiver = .hunt ∧ (TrunkMessage.mk 5 0 (List.replicate 40 0)).payload.length ≤ 40 ∧
    calm.trunk.awaitsMark = false ∧ { calm.trunk with awaitsMark := true }.awaitsMark = true ∧ (0 : Nat) < 1 := by
  decide

theorem witness_CheckSeesOneWrongBit : (0 : Nat) < 8 ∧ (7 : Nat) < 8 := by decide

theorem witness_ReceiverCollects :
    calm.rstnLow = false ∧ calm.trunk.receiver = .hunt ∧ broken.rstnLow = false ∧ broken.trunk.receiver = .inBreak ∧
    (∀ r : Receiver, { calm with trunk := { calm.trunk with receiver := r } }.trunk.receiver = r) ∧
    ([5, 9] : List Byte).length + 2 < (2 : Byte).toNat + 3 ∧
    (2 : Byte) :: [5, 9, 0] ++ [0] = [2, 5, 9] ++ [0, 0] ∧ (2 : Byte).toNat + 3 ≤ ([5, 9, 0] : List Byte).length + 2 ∧
    crc [2, 5, 9] ≠ wordOf 0 0 :=
  ⟨rfl, rfl, rfl, rfl, fun _ => rfl, by decide, rfl, by decide, by decide⟩

theorem witness_DiscardedMessagesAreCounted :
    calm.Hears ∧ ¬ broken.Hears ∧ ¬ low.Hears ∧
    { calm with trunk := { calm.trunk with receiver := .body [2] true } }.trunk.receiver = .body [2] true ∧
    ∀ collected damaged, calm.trunk.receiver ≠ .body collected damaged :=
  ⟨by decide, by decide, by decide, rfl, fun _ _ h => nomatch h⟩

theorem witness_MalformedDrawsItsAlert :
    calm.Hears ∧
    ∀ x ∈ ([(0, 40), (6, 0), (1, 0), (1, 2), (4, 3), (4, 5), (5, 0), (255, 1)] : List (Byte × Nat)),
      (List.replicate x.2 (0 : Byte)).length ≤ 40 ∧
      ¬ (x.1.toNat ∈ [1, 2, 3] ∧ (List.replicate x.2 (0 : Byte)).length = 1) ∧
      ¬ (x.1.toNat = 4 ∧ (List.replicate x.2 (0 : Byte)).length = 4) ∧
      ¬ (x.1.toNat = 5 ∧ 1 ≤ (List.replicate x.2 (0 : Byte)).length) := by decide

theorem witness_MessagesReleaseTheArbiterFirst :
    encodeMessage 0 (.take 7) = some ⟨1, 0, [7]⟩ ∧ calm.Hears ∧ ¬ broken.Hears ∧ ¬ low.Hears := by decide

theorem witness_DuplicatesComeFromMemory :
    (Instr.identify 5 []).requestSequence = some 5 ∧ (Instr.send 5 0 0 0 0).requestSequence = some 5 ∧
    (remembering calm).Hears ∧ (remembering calm).memory = some ⟨5, ⟨5, 1, false, .ok, false, []⟩⟩ ∧
    (remembering calm).HasRoom ∧ (remembering crowded).Hears ∧ ¬ (remembering crowded).HasRoom := by decide

theorem witness_RequestsWithoutRoomAreIgnored :
    (Instr.identify 4 []).requestSequence = some 4 ∧ (remembering crowded).Hears ∧
    ¬ (remembering crowded).Remembers 4 ∧ ¬ (remembering crowded).HasRoom ∧ ¬ crowded.Remembers 5 := by decide

/-- For every statement about an executed request. -/
theorem witness_RefusedRequestsChangeNothing :
    (Instr.setLink 4 [8]).requestSequence = some 4 ∧ calm.Admits 4 ∧ (remembering calm).Admits 4 ∧
    (guarded 15 0 0 0).Admits 4 := by decide

theorem witness_CodeAndLengthAreChecked :
    calm.Admits 4 ∧
    (∀ code ∈ ([0, 5, 0x0F, 0x3B, 0xFF] : List Byte), code.toNat ∉
      [1, 2, 3, 4, 16, 17, 18, 19, 20, 21, 24, 25, 32, 33, 34, 35, 36, 40, 41, 48, 49, 50, 51, 56, 57, 58]) ∧
    ([0] : List Byte).length ≠ Command.identify.argumentLength ∧
    ([] : List Byte).length ≠ Command.reset.argumentLength ∧
    ([0, 1, 0] : List Byte).length ≠ Command.portControl.argumentLength := by decide

theorem witness_RangeIsExact :
    calm.Admits 4 ∧ ([15, 1, 1] : List Byte).length = Command.configureLevel.argumentLength ∧
    Command.configureLevel.inRange [15, 1, 1] = true ∧ Command.configureLevel.inRange [16, 1, 1] = false ∧
    Command.setArbiter.inRange [2, 0x07, 0xD0, 15] = true ∧ Command.setArbiter.inRange [2, 0x07, 0xD1, 15] = false ∧
    Command.setArbiter.inRange [0, 0, 5, 1] = true ∧ Command.setArbiter.inRange [0, 0, 4, 1] = false ∧
    Command.configurePort.inRange [7, 7, 0xEA, 0x60, 0xFF, 15] = true ∧
    Command.configurePort.inRange [7, 7, 0xEA, 0x61, 0xFF, 15] = false ∧ Command.identify.inRange [] = true := by decide

theorem witness_GeneralCommandsAnswer : calm.Admits 4 := by decide

theorem witness_WorkInFlightIsReset :
    calm.Admits 4 ∧ calm.Hears ∧ broken.trunk.receiver = .inBreak ∧ (withPort (present [⟨1, 2, some 9⟩])).Admits 4 := by
  decide

theorem witness_ConfigurationIsReset :
    calm.Admits 4 ∧ (withPort (present [⟨1, 2, some 9⟩])).Admits 4 ∧ calm.ports[0].line.activity = .none ∧
    (withPort { present [] with line := { Line.cold with activity := .awaitClock } }).ports[0].line.attempting = true ∧
    (withPort { present [] with line := ⟨.closing, ⟨true, false, false, false⟩, none⟩ }).ports[0].line.activity = .closing
    := by decide

theorem witness_StartsAreAnnounced :
    low.rstnLow = true ∧ calm.rstnLow = false ∧ broken.rstnLow = false ∧ broken.trunk.receiver = .inBreak ∧
    calm.trunk.receiver ≠ .inBreak := by decide

theorem witness_NothingRunsWhileReset :
    low.rstnLow = true ∧ Instr.offer ≠ .coldReset ∧ Instr.offer ≠ .rstnReleased ∧ Instr.offer ≠ .transmitEnd ∧
    calm.rstnLow = false := by decide

theorem witness_ArbiterSettingsAreWritten :
    calm.Admits 4 ∧ 5 ≤ (5 : Word).toNat ∧ (2000 : Word).toNat ≤ 2000 ∧ 5 ≤ (2000 : Word).toNat ∧
    1 ≤ (1 : Byte).toNat ∧ (15 : Byte).toNat ≤ 15 := by decide

theorem witness_MasksAreSet :
    calm.Admits 4 ∧ (0 : Byte) ≠ 1 ∧ (0 : Byte) ≠ 2 ∧ (0 : Byte) ≠ 3 ∧ (4 : Byte) ≠ 1 ∧ (4 : Byte) ≠ 2 ∧ (4 : Byte) ≠ 3 ∧
    ∃ (i : Instr) (masked : LevelIx → Bool), i = .setMasksAssign 4 [hiByte 3, loByte 3] ∧
      masked = fun l : LevelIx => (3 : Word).getLsbD l :=
  ⟨by decide, by decide, by decide, by decide, by decide, by decide, by decide, _, _, rfl, rfl⟩

theorem witness_HostAssertsAndWithdraws :
    calm.Admits 4 ∧ calm.arbiter.levels[5].pending = none ∧
    (withLevel 5 ⟨true, false, some aRecord⟩ .idle).Admits 4 ∧
    (withLevel 5 ⟨true, false, some aRecord⟩ .idle).arbiter.levels[5].pending = some aRecord ∧
    (withLevel 5 ⟨true, false, some { aRecord with count := 255 }⟩ .idle).arbiter.levels[5].pending =
      some { aRecord with count := 255 } := by decide

theorem witness_ArbiterIsReported : calm.Admits 4 ∧ (serving .selective).Admits 4 := by decide

theorem witness_RankIsOneOrder :
    let a := calm.arbiter
    a.rank 3 = a.rank 3 ∧ (4 : LevelIx).val % 4 = (a.bands[bandOf 4].pointer.val + 1) % 4 ∧
    (4 : LevelIx).val / 4 = (5 : LevelIx).val / 4 ∧ (4 : LevelIx).val % 4 ≠ a.bands[bandOf 4].pointer.val ∧
    (5 : LevelIx).val % 4 = ((4 : LevelIx).val + 1) % 4 ∧
    ({ a with bands := update a.bands 1 fun _ => ⟨true, 3⟩ } : Arbiter).bands[bandOf 5].rotation = true := by decide

theorem witness_EligibilityFollowsTheMode :
    (⟨7, aRecord⟩ : InService) ∈ (serving .nested).arbiter.stack ∧ (serving .nested).arbiter.mode ≠ .selective ∧
    (serving .selective).arbiter.mode = .selective ∧
    (withLevel 5 ⟨false, false, some aRecord⟩ .idle).arbiter.eligible 5 = true ∧
    (withLevel 5 ⟨false, false, some aRecord⟩ .idle).arbiter.highest = some 5 ∧ calm.arbiter.highest = none := by decide

theorem witness_OffersAreMade :
    let s := withLevel 5 ⟨false, false, some aRecord⟩ .idle
    s.rstnLow = false ∧ s.arbiter.state = .idle ∧ s.HasRoom ∧ s.arbiter.highest = some 5 ∧
    s.arbiter.levels[5].pending = some aRecord ∧
    (withLevel 5 ⟨false, false, some aRecord⟩ (.presenting 5)).arbiter.state ≠ .idle ∧ ¬ crowded.HasRoom ∧
    calm.arbiter.highest = none := by decide

theorem witness_TakenLevelsGoIntoService :
    ∀ autoDone : Bool, ∀ state ∈ [ArbiterState.presenting 5, .awaiting 5 50],
      let s := withLevel 5 ⟨false, autoDone, some aRecord⟩ state
      s.Hears ∧ s.HasRoom ∧ s.arbiter.state.offered = some 5 ∧ s.arbiter.eligible 5 = true ∧
      s.arbiter.levels[5].pending = some aRecord := by decide

theorem witness_OtherTakesAreVoidStaleOrIgnored :
    let s := withLevel 5 ⟨true, false, some aRecord⟩ (.awaiting 5 50)
    s.Hears ∧ s.HasRoom ∧ s.arbiter.state.offered = some 5 ∧ s.arbiter.eligible 5 = false ∧ s.arbiter.number = 7 ∧
    (6 : Byte) ≠ s.arbiter.number ∧ calm.arbiter.state.offered = none ∧ crowded.Hears ∧ ¬ crowded.HasRoom := by decide

theorem witness_DoneCompletesALevel :
    (∀ mode ∈ [Mode.nested, .selective, .single],
      (serving mode).Hears ∧ ((serving mode).arbiter.stack.map InService.level).Nodup) ∧
    (serving .nested).arbiter.stack = [] ++ ⟨2, aRecord⟩ :: [⟨7, aRecord⟩, ⟨9, aRecord⟩] ∧
    (serving .nested).arbiter.mode ≠ .selective ∧
    (serving .selective).arbiter.stack = [⟨2, aRecord⟩] ++ ⟨7, aRecord⟩ :: [⟨9, aRecord⟩] ∧
    (serving .selective).arbiter.levels[7].masked = false ∧
    (∀ x ∈ [(⟨2, aRecord⟩ : InService)], (serving .selective).arbiter.levels[x.level].masked = true) ∧
    (∀ value ∈ ([3, 15, 16, 0x7F, 0x81, 0xFF] : List Byte), value ≠ 0x80 ∧
      ∀ e ∈ (serving .nested).arbiter.stack, e.level.val ≠ value.toNat) ∧
    calm.Hears ∧ calm.arbiter.stack = [] ∧
    (let s := { serving .selective with arbiter := { (serving .selective).arbiter with levels := calm.arbiter.levels } }
     s.arbiter.mode = .selective ∧ ∀ e ∈ s.arbiter.stack, s.arbiter.levels[e.level].masked = true) := by decide

theorem witness_RecallRepeatsTheRecord :
    let s := serving .nested
    s.Hears ∧ (⟨9, aRecord⟩ : InService) ∈ s.arbiter.stack ∧ s.HasRoom ∧ (s.arbiter.stack.map InService.level).Nodup ∧
    (9 : LevelIx).val = (9 : Byte).toNat ∧ (∀ e ∈ s.arbiter.stack, e.level.val ≠ (16 : Byte).toNat) ∧
    crowded.Hears ∧ ¬ crowded.HasRoom := by decide

theorem witness_LapsesLeadToQuiescence :
    let s := withLevel 5 ⟨false, false, some aRecord⟩ (.awaiting 5 50)
    s.rstnLow = false ∧ s.arbiter.state = .awaiting 5 50 ∧ s.arbiter.consecutiveLapses + 1 < s.arbiter.lapseLimit ∧
    (let t := { s with arbiter := { s.arbiter with consecutiveLapses := 3 } }
     t.arbiter.lapseLimit ≤ t.arbiter.consecutiveLapses + 1) ∧
    ∀ l timer, calm.arbiter.state ≠ .awaiting l timer :=
  ⟨by decide, by decide, by decide, by decide, fun _ _ h => nomatch h⟩

theorem witness_SelectorsAreLoaded :
    calm.Admits 4 ∧
    (let e : Selector := ⟨true, true, 0x40, some 6, 1, 1, .tally 7 (-127)⟩
     e.valid = true ∧ e.Good = true) ∧ (0x7F : Byte).getLsbD 7 = false := by decide

theorem witness_ShadowIsClearedOrCopied : calm.Admits 4 := by decide

theorem witness_BanksSwapAndReport : calm.Admits 4 := by decide

theorem witness_GrantGoesRound : ∀ p : PortIx, calm.grantable p = false := by decide

/-- A frame of port 4 that matches nothing, with this policy and this many RELAYs. -/
def forwarding (overflow : Overflow) (relays : Nat) : State :=
  let s := holding (guarded 0 relays 0 0) fun p => if p = 4 then [⟨1, 10, 7⟩] else []
  { s with ports := update s.ports 4 fun pt => { pt with config := { pt.config with overflow := overflow } } }

theorem witness_FullLaneDefersTheFrame :
    let s := forwarding .hold 24
    s.rstnLow = false ∧ s.granted = some 4 ∧ s.ports[4].intake = ⟨1, 10, 7⟩ :: [] ∧ 24 ≤ s.trunk.relays.length ∧
    s.ports[4].config.overflow = .hold ∧ s.classifier.collected 4 ⟨1, 10, 7⟩ = [] ∧
    s.ports[4].config.disposition = .forward := by decide

theorem witness_FullLaneDefersTheFrame_of_an_entry :
    let s := { forwarding .hold 24 with classifier := keypads.classifier }
    s.granted = some 4 ∧ s.ports[4].intake = ⟨1, 10, 7⟩ :: [] ∧
    ∃ i ∈ s.classifier.collected 4 ⟨1, 10, 7⟩, (s.classifier.bank s.classifier.active)[i].entry.action = .forward := by
  decide

theorem witness_ClassificationActsOnce :
    keypads.rstnLow = false ∧ keypads.granted = some 0 ∧ keypads.ports[0].intake = ⟨2, 53, 5000⟩ :: [⟨2, 70, 5010⟩] ∧
    (forwarding .hold 23).granted = some 4 ∧ ¬ 24 ≤ (forwarding .hold 23).trunk.relays.length ∧
    (forwarding .drop 24).granted = some 4 ∧ (forwarding .drop 24).ports[4].config.overflow = .drop := by decide

/-- A frame of port 4 that one entry matches. -/
def acting (action : Action) : State :=
  { forwarding .drop 23 with classifier := { calm.classifier with
    bankA := update calm.classifier.bankA 47 fun _ => ⟨⟨true, false, 0x10, none, 0, 255, action⟩, 0⟩ } }

theorem witness_ActionsReachTheirOwners :
    ∀ action ∈ [Action.discard, .assert 15, .withdraw 0, .forward, .tally 7 127, .signal 3 15, .answer 6 255],
      let s := acting action
      s.rstnLow = false ∧ s.granted = some 4 ∧ s.ports[4].intake = ⟨1, 10, 7⟩ :: [] ∧ PortInv s.ports[4] ∧
      s.classifier.collected 4 ⟨1, 10, 7⟩ = [47] ∧
      (s.classifier.bank s.classifier.active)[(47 : EntryIx)].entry.action = action ∧ ¬ 24 ≤ s.trunk.relays.length := by
  decide

theorem witness_ActionsReachTheirOwners_of_a_chain :
    keypads.rstnLow = false ∧ keypads.granted = some 0 ∧ keypads.ports[0].intake = ⟨2, 53, 5000⟩ :: [⟨2, 70, 5010⟩] ∧
    PortInv keypads.ports[0] ∧ keypads.classifier.collected 0 ⟨2, 53, 5000⟩ = [4, 5] ∧
    ¬ 24 ≤ keypads.trunk.relays.length ∧
    PortInv (forwarding .drop 24).ports[4] ∧ (forwarding .drop 24).ports[4].config.overflow = .drop := by decide

theorem witness_TalliesStepAndCross :
    (∀ t ∈ [clicks, ⟨0, some 5, some (-5), 2, none, true, true, 0, 255⟩, ⟨0, some 0, none, 1, none, false, false, 0, 0⟩,
        Tally.cold], t.Good = true) ∧ (-127 : Int) ≤ -127 ∧ (127 : Int) ≤ 127 ∧ clicks.upperArm = true ∧
    (5 : Int) ≤ (clicks.step 2).value ∧ (clicks.step 1).value < 5 ∧ (clicks.step 2).upperArm = false ∧
    (Tally.mk 0 (some 5) (some (-5)) 2 none true true 0 255 |>.step (-5)).value ≤ -5 := by decide

theorem witness_TalliesAreConfiguredAndRead :
    calm.Admits 4 ∧ (-32768 : Int) ≤ -32768 ∧ (32767 : Int) ≤ 32767 ∧ (-32768 : Int) < 32767 ∧ (255 : Byte) ≠ 0 := by
  decide

theorem witness_PatternsAreLoadedAndStarted :
    calm.Admits 4 ∧ (⟨1, 0, 1000, .three, true, some 15⟩ : Pattern).Good = true ∧ calm.patterns[15] = none ∧
    beeps.Admits 4 ∧ beeps.patterns[3] = some ⟨800, 1200, 3, .two, false, some 10⟩ ∧ beeps.outputs[1].running = none ∧
    (playing .mark 3 none).Admits 4 ∧ (playing .mark 3 none).outputs[1].running.isSome = true := by decide

theorem witness_SignalsAreStoppedAndRead : (playing .mark 3 none).Admits 4 := by decide

theorem witness_PhasesFollowOneAnother :
    calm.rstnLow = false ∧ calm.outputs[1].running = none ∧
    (let counted (phase : Phase) (n : Nat) : Burst := ⟨⟨3, ⟨800, 1200, 3, .two, false, some 10⟩⟩, phase, n, 800⟩
     let long : Burst := ⟨⟨5, ⟨2000, 0, 10, .steady, true, none⟩⟩, .mark, 1, 20000⟩
     let endless (phase : Phase) : Burst := ⟨⟨7, ⟨5000, 5000, 0, .one, false, some 11⟩⟩, phase, 0, 5000⟩
     (counted .mark 2).Good = true ∧ (counted .mark 1).Good = true ∧ (counted .space 2).Good = true ∧
     (counted .mark 2).copy.pattern.tone = .two ∧ long.copy.pattern.tone = .steady ∧
     (endless .mark).copy.pattern.tone = .one ∧
     long.Good = true ∧ (endless .mark).Good = true ∧ (endless .space).Good = true ∧
     (playing .mark 1 none).outputs[1].running = some (counted .mark 1)) ∧
    (playing .space 1 (some ⟨5, ⟨2000, 0, 10, .steady, true, none⟩⟩)).outputs[1].waiting ≠ none := by decide

/-- A port in each presence state. -/
def disabledPort : Port :=
  { Port.cold with presence := .disabled, probeDue := false, probeTimer := none, line := ⟨.none, ⟨true, false, false, false⟩, none⟩ }
def faultedPort : Port :=
  { Port.cold with
    presence := .faulted
    probeDue := false
    probeTimer := none
    lineErrorRun := 8
    line := ⟨.none, ⟨false, true, false, false⟩, none⟩ }

theorem witness_PortsAreConfiguredAndRead :
    (withPort (present [])).Admits 4 ∧ PortInv (withPort (present [])).ports[0] ∧ PortInv faultedPort ∧
    (100 : Nat) ≤ 100 ∧ (60000 : Nat) ≤ 60000 ∧
    PortInv { present [⟨1, 2, none⟩] with
      line := ⟨.holdPhase true, Reasons.noReason, some ⟨false, 1, 2⟩⟩, attempts := 1, silenceTimer := none } := by decide

theorem witness_PortsAreEnabledAndDisabled :
    (∀ pt ∈ [disabledPort, { disabledPort with line := ⟨.closing, ⟨true, false, false, false⟩, none⟩ }, faultedPort,
        Port.cold, present [⟨1, 2, some 9⟩]],
      (withPort pt).Admits 4 ∧ PortInv (withPort pt).ports[0]) ∧
    disabledPort.presence = .disabled ∧ faultedPort.presence = .faulted ∧ Port.cold.presence = .absent ∧
    (present [⟨1, 2, some 9⟩]).presence = .present := by decide

theorem witness_PortsAreProbedAndFlushed :
    Port.cold.presence = .absent ∧ (present []).presence ≠ .absent ∧ (present [⟨1, 2, some 9⟩]).attempts = 0 ∧
    (∀ pt ∈ [Port.cold, present [⟨1, 2, some 9⟩], { present [⟨1, 2, none⟩, ⟨1, 3, some 9⟩] with attempts := 2 }],
      (withPort pt).Admits 4 ∧ PortInv (withPort pt).ports[0]) := by decide

theorem witness_SendsAreCheckedAndQueued :
    calm.Admits 4 ∧ 7 < (8 : Byte).toNat ∧ 6 < (7 : Byte).toNat ∧ 1 < (2 : Byte).toNat ∧ (6 : Tag) ≠ 7 ∧
    PortInv calm.ports[0] ∧
    (∀ n ∈ [0, 1, 4], (withPort (present (List.replicate n ⟨1, 2, none⟩))).Admits 4 ∧
      PortInv (withPort (present (List.replicate n ⟨1, 2, none⟩))).ports[0]) ∧
    (let s := { withPort (present []) with trunk := (guarded 15 0 0 0).trunk }
     s.Admits 4 ∧ 14 < s.trunk.control.length + s.trunk.reservations) := by decide

/-- Port 0 with this on its line. -/
def lined (queue : List TxEntry) (l : Line) : State := withPort { present queue with line := l, silenceTimer := none }

theorem witness_WiresAreFollowed :
    let entry : TxEntry := ⟨1, 2, none⟩
    let ready : Option Ready := some ⟨false, 1, 2⟩
    calm.rstnLow = false ∧ PortInv calm.ports[0] ∧ calm.ports[0].line.state = .quiet ∧
    PortInv (withPort disabledPort).ports[0] ∧ (withPort disabledPort).ports[0].line.state ≠ .quiet ∧
    PortInv (withPort (present [entry])).ports[0] ∧ (withPort (present [entry])).ports[0].line.ready = ready ∧
    (withPort (present [entry])).ports[0].line.activity = .none ∧
    PortInv (lined [entry] ⟨.none, ⟨false, false, false, true⟩, ready⟩).ports[0] ∧
    (lined [entry] ⟨.none, ⟨false, false, false, true⟩, ready⟩).ports[0].line.reasons.any = true ∧
    PortInv (withPort { present [entry] with attempts := 1, silenceTimer := none, line := ⟨.holdPhase false, Reasons.noReason, ready⟩ }).ports[0] ∧
    PortInv (lined [] ⟨.closing, Reasons.noReason, none⟩).ports[0] ∧
    PortInv (withPort { disabledPort with line := ⟨.closing, ⟨true, false, false, false⟩, none⟩ }).ports[0] := by decide

theorem witness_FramesCrossTheWires :
    (withPort (present [])).rstnLow = false ∧ (withPort (present [])).ports[0].line.state = .quiet ∧
    (withPort (present [])).ports[0].config.precedence = .yield ∧ (withPort (present [])).ports[0].line.ready = none ∧
    (let s := lined [⟨1, 2, none⟩] ⟨.awaitClock, Reasons.noReason, some ⟨false, 1, 2⟩⟩
     s.ports[0].line.activity = .awaitClock ∧ s.ports[0].line.ready = some ⟨false, 1, 2⟩) ∧
    (List.replicate 14 true).length ≤ 14 ∧ (List.replicate 14 true).length = 14 ∧ ([] : List Bool).length ≤ 14 := by decide

theorem witness_GoodFramesReachTheirPort :
    (∀ pt ∈ [disabledPort, Port.cold, present [], { faultedPort with intake := [⟨0, 0, 0⟩] }],
      let s := withPort (framedPort pt (frameBits 7 9))
      s.rstnLow = false ∧ PortInv s.ports[0] ∧ s.ports[0].line.activity = .inbound (frameBits 7 9 ++ [true]) false false) ∧
    (let s := lined [] ⟨.inbound (List.replicate 15 true) false true, Reasons.noReason, none⟩
     PortInv s.ports[0] ∧ s.ports[0].line.activity = .inbound (List.replicate 15 true) false true ∧
     (List.replicate 15 true).length = 15) := by decide

theorem witness_LineErrorsAreCounted :
    (∀ gone : Bool, ∀ run ∈ [0, 6, 7],
      let s := withPort { present [] with
        lineErrorRun := run, line := ⟨.inbound (List.replicate 15 true) false gone, Reasons.noReason, none⟩ }
      s.rstnLow = false ∧ PortInv s.ports[0]) ∧
    (∀ pt ∈ [disabledPort, faultedPort],
      PortInv { pt with line := { pt.line with activity := .inbound (List.replicate 15 true) false false } }) ∧
    PortInv (lined [] ⟨.inbound [false] true false, Reasons.noReason, none⟩).ports[0] ∧
    (List.replicate 15 true).length = 15 ∧
    ∀ (tag : Tag) (data : Byte) (level : Bool), List.replicate 15 true ≠ frameBits tag data ++ [level] := by
  refine ⟨by decide, by decide, by decide, by decide, ?_⟩
  intro tag data level h
  have := congrArg List.head? h
  simp [frameBits] at this

theorem witness_AttemptsEnd :
    (∀ answered : Bool,
      let s := withPort (answeredPort { Port.cold with probeDue := false } ⟨true, 7, 0⟩ 0 answered)
      s.rstnLow = false ∧ PortInv s.ports[0] ∧ s.ports[0].line.ready = some ⟨true, 7, 0⟩) ∧
    (∀ answered : Bool, ∀ attempts ∈ [1, 2, 3], ∀ run ∈ [0, 2, 3],
      let s := withPort (answeredPort { present [⟨1, 2, some 9⟩] with sendFailureRun := run } ⟨false, 1, 2⟩ attempts answered)
      PortInv s.ports[0] ∧ s.ports[0].line.activity = .outbound 15 false answered) ∧
    AttemptEnding (withPort (answeredPort (present [⟨1, 2, some 9⟩]) ⟨false, 1, 2⟩ 1 true)) 0 (.attemptOutcome 0) true
      .failedNak ∧
    AttemptEnding (lined [⟨1, 2, none⟩] ⟨.awaitClock, Reasons.noReason, some ⟨false, 1, 2⟩⟩) 0 (.noResponse 0) false
      .failedSilent ∧
    AttemptEnding (lined [⟨1, 2, none⟩] ⟨.outbound 14 true false, Reasons.noReason, some ⟨false, 1, 2⟩⟩) 0 (.noResponse 0)
      false .failedSilent :=
  ⟨by decide, by decide, .inl ⟨rfl, rfl, _, rfl⟩, .inr ⟨rfl, rfl, rfl, .inl rfl⟩,
    .inr ⟨rfl, rfl, rfl, .inr ⟨14, _, _, by decide, rfl⟩⟩⟩

theorem witness_PortsProbeAndGoSilent :
    calm.rstnLow = false ∧ calm.ports[0].probeTimer ≠ none ∧ (withPort (present [])).ports[0].probeTimer = none ∧
    calm.ports[0].presence = .absent ∧ calm.ports[0].probeDue = true ∧ calm.ports[0].line.state = .quiet ∧
    calm.ports[0].line.ready = none ∧ (withPort (present [])).ports[0].probeDue = false ∧
    (withPort (present [])).ports[0].presence = .present ∧ (withPort (present [])).ports[0].silenceTimer ≠ none ∧
    calm.ports[0].silenceTimer = none := by decide

theorem witness_MessagesAreSent :
    (let s := guarded 16 1 7 0
     s.rstnLow = false ∧ s.trunk.sending = none ∧
     s.trunk.control = ⟨.detail (.stale 0), none⟩ :: List.replicate 15 ⟨.detail (.stale 0), none⟩ ∧
     s.trunk.controlRun < 8 ∧ ¬ s.HasRoom) ∧
    (guarded 1 0 8 0).HasRoom ∧ (guarded 1 0 8 0).trunk.relays = [] ∧
    (guarded 0 1 0 0).trunk.control = [] ∧ (guarded 0 1 0 0).trunk.relays = ⟨0, 0, 0, 0, none⟩ :: [] ∧
    8 ≤ (guarded 1 1 8 0).trunk.controlRun ∧ calm.trunk.control = [] ∧ calm.trunk.relays = [] ∧
    (after .transmitBegin (guarded 1 0 0 0)).trunk.sending ≠ none ∧
    ((after .transmitBegin (guarded 1 0 0 0)).trunk.sending.bind fun x => x.characters[23]?).isSome = true := by decide

/-- A state that is not the one after reset, and a step of it, for the two statements about every step. -/
theorem witness_TablesStayLegal :
    let s := { withLevel 5 ⟨false, false, some aRecord⟩ .idle with pending := [.offer] }
    ArbiterInv s.arbiter ∧ NoticeInv s = true ∧ ClassifierInv s.classifier ∧ (∀ i : TallyIx, s.tallies[i].Good = true) ∧
    SignalInv s ∧ ∃ t, step s = .next t :=
  ⟨by decide, by decide, by decide, by decide, by decide, _, rfl⟩

theorem witness_PortsAndLanesStayLegal :
    let s := { withPort (present [⟨1, 2, some 9⟩]) with
      trunk := { calm.trunk with reservations := 1 }, pending := [.requestToSend 0 true true] }
    ClassifierInv s.classifier ∧ PortsInv s ∧ DeferredInv s ∧ LaneInv s ∧ ReceiverInv s ∧ ∃ t, step s = .next t :=
  ⟨by decide, by decide, by decide, by decide, by decide, _, rfl⟩

end Sys2Proof.Tests
end

section
/-! PROOFS. The rules of the arbiter, the banks, the tallies and the signals, kept by every step. -/

namespace Sys2Proof

variable {α β : Type} {n : Nat}

/-! ## A property of every item of a table -/

theorem forall_update {P : α → Prop} {v : Vector α n} (h : ∀ k : Fin n, P v[k]) (i : Fin n) {f : α → α}
    (hf : P (f v[i])) (k : Fin n) : P (update v i f)[k] := by
  by_cases hk : i = k
  · subst hk; simpa using hf
  · simpa [update_getElem_other _ _ _ _ _ (fun e => hk (Fin.ext e))] using h k

theorem forall_mapAll {P : β → Prop} {v : Vector α n} {f : α → β} (h : ∀ k : Fin n, P (f v[k])) (k : Fin n) :
    P (mapAll f v)[k] := by
  simpa using h k

theorem forall_replicate {P : α → Prop} {x : α} (h : P x) (k : Fin n) : P (Vector.replicate n x)[k] := by
  simpa using h

end Sys2Proof

namespace Sys2Proof.Machine

/-! ## Request records (R2, R4) -/

theorem Record.first_good (source : Source) (data : Byte) (time : Word) :
    (Record.first source data time).Good = true := by
  simp [Record.first, Record.Good]

/-- A joined record has a count of 2 or more (R4). -/
theorem Record.join_good {r : Record} (h : r.Good = true) (source : Source) (data : Byte) (time : Word) :
    (r.join source data time).Good = true := by
  have hc : r.count ≠ 0 := by
    simp only [Record.Good, Bool.and_eq_true, bne_iff_ne] at h
    exact h.1
  have hs : ∀ c : Byte, c ≠ 0 → satInc c ≠ 0 ∧ satInc c ≠ 1 := by decide
  obtain ⟨h0, h1⟩ := hs r.count hc
  simp only [Record.join, Record.Good, Bool.and_eq_true, Bool.or_eq_true, bne_iff_ne]
  exact ⟨h0, .inl h1⟩

/-- The pending record of a level is good. -/
abbrev Level.PendingGood (x : Level) : Prop := ∀ r ∈ x.pending, r.Good = true

theorem Level.withdrawn_pendingGood (x : Level) : Level.PendingGood { x with pending := none } := by
  intro r hr
  cases hr

/-! ## The arbiter (R13, R42) -/

theorem ArbiterInv.pendingGood {a : Arbiter} (h : ArbiterInv a) (l : LevelIx) : a.levels[l].PendingGood := by
  obtain ⟨-, -, hl, -⟩ := h
  exact hl l

/-- The levels may change as long as the pending records stay good. -/
theorem ArbiterInv.withLevels {a : Arbiter} (h : ArbiterInv a) {levels : Vector Level 16}
    (hl : ∀ l : LevelIx, levels[l].PendingGood) : ArbiterInv { a with levels } := by
  obtain ⟨hn, hs, -, hrest⟩ := h
  exact ⟨hn, hs, hl, hrest⟩

theorem ArbiterInv.updateLevel {a : Arbiter} (h : ArbiterInv a) (l : LevelIx) {f : Level → Level}
    (hf : (f a.levels[l]).PendingGood) : ArbiterInv { a with levels := update a.levels l f } :=
  h.withLevels (forall_update h.pendingGood l hf)

/-- The lapse count may be cleared in any state. -/
theorem ArbiterInv.clearLapses {a : Arbiter} (h : ArbiterInv a) (state : ArbiterState) :
    ArbiterInv { a with state, consecutiveLapses := 0 } := by
  obtain ⟨hn, hs, hl, ht, ht', hp, hp', -⟩ := h
  exact ⟨hn, hs, hl, ht, ht', hp, hp', by simp, by simp⟩

/-- Outside QUIESCENT the state may change and the lapse count stay (R42). -/
theorem ArbiterInv.withState {a : Arbiter} (h : ArbiterInv a) (hq : a.state ≠ .quiescent) (number : Byte)
    (state : ArbiterState) : ArbiterInv { a with number, state } := by
  obtain ⟨hn, hs, hl, ht, ht', hp, hp', hc, hc'⟩ := h
  exact ⟨hn, hs, hl, ht, ht', hp, hp', hc, fun _ => hc' hq⟩

/-- A level that leaves the stack leaves each other level in it once (R13). -/
theorem ArbiterInv.complete {a : Arbiter} (h : ArbiterInv a) (l : LevelIx) : ArbiterInv (a.complete l) := by
  obtain ⟨hn, hs, hrest⟩ := h
  exact ⟨hn.sublist (List.filter_sublist.map _), fun e he => hs e (List.mem_of_mem_filter he), hrest⟩

/-- No level outranks itself, so an eligible level is not in the stack (R15, Table 1-5). -/
theorem Arbiter.eligible_not_in_stack {a : Arbiter} {l : LevelIx} (h : a.eligible l = true) :
    ∀ e ∈ a.stack, e.level ≠ l := by
  rintro e he rfl
  simp only [Arbiter.eligible, Bool.and_eq_true, Bool.not_eq_true'] at h
  obtain ⟨⟨-, hmask⟩, hmode⟩ := h
  unfold Arbiter.modeAllows at hmode
  split at hmode
  · simpa [Arbiter.outranks] using List.all_eq_true.1 hmode e he
  · rw [Fin.getElem_fin] at hmask
    simpa [Arbiter.outranks, hmask] using List.all_eq_true.1 hmode e he
  · simp [List.isEmpty_iff.1 hmode] at he

/-- An eligible level that moves into service is in the stack once (R13, R33). -/
theorem ArbiterInv.push {a : Arbiter} (h : ArbiterInv a) {l : LevelIx} {r : Record} (he : a.eligible l = true)
    (hr : a.levels[l].pending = some r) : ArbiterInv (a.push l r) := by
  have hgood := h.pendingGood l r hr
  obtain ⟨hn, hs, hrest⟩ := h.updateLevel l (f := fun x => { x with pending := none }) (Level.withdrawn_pendingGood _)
  refine ⟨?_, ?_, hrest⟩
  · simp only [Arbiter.push, List.map_cons, List.nodup_cons]
    refine ⟨?_, hn⟩
    simpa [List.mem_map] using Arbiter.eligible_not_in_stack he
  · intro e hmem
    rcases List.mem_cons.1 hmem with rfl | hmem
    · exact hgood
    · exact hs e hmem

theorem ArbiterInv.release {a : Arbiter} (h : ArbiterInv a) : ArbiterInv a.release := by
  unfold Arbiter.release
  split
  · exact h.clearLapses .idle
  · exact h

theorem ArbiterInv.resetRecords {a : Arbiter} (h : ArbiterInv a) : ArbiterInv a.resetRecords := by
  obtain ⟨-, -, -, ht, ht', hp, hp', -⟩ := h.clearLapses .idle
  exact ⟨by simp [Arbiter.resetRecords], by simp [Arbiter.resetRecords],
    forall_mapAll (P := Level.PendingGood) fun _ => Level.withdrawn_pendingGood _, ht, ht', hp, hp',
    by simp [Arbiter.resetRecords], by simp [Arbiter.resetRecords]⟩

theorem arbiterInv_cold : ArbiterInv Arbiter.cold := by decide

theorem ArbiterInv.resetConfig (a : Arbiter) : ArbiterInv a.resetConfig := arbiterInv_cold

/-! ## The NOTICE of an offer (Table 2-1, R28, R30) -/

/-- The trunk unit has the NOTICE of this offer in the control lane or in transmission. -/
def Trunk.Carries (t : Trunk) (number : Byte) (level : LevelIx) : Prop :=
  (∃ e ∈ t.control, e.message.isNotice number level = true) ∨
  ∃ x m, t.sending = some x ∧ x.message = .control m ∧ m.isNotice number level = true

theorem noticeInv_iff (s : State) :
    NoticeInv s = true ↔ ∀ l, s.arbiter.state = .presenting l → s.trunk.Carries s.arbiter.number l := by
  unfold NoticeInv Trunk.Carries
  cases s.arbiter.state with
  | presenting l =>
    simp only [Bool.or_eq_true, List.any_eq_true, ArbiterState.presenting.injEq, forall_eq']
    refine or_congr_right ?_
    cases s.trunk.sending with
    | none => simp
    | some x => cases hx : x.message <;> simp [hx]
  | _ => simp

/-- No queued message is lost and the message in transmission stays. -/
abbrev Trunk.KeepsMessages (t u : Trunk) : Prop := t.control ⊆ u.control ∧ u.sending = t.sending

theorem Trunk.Carries.mono {t u : Trunk} {number : Byte} {l : LevelIx} (h : t.Carries number l)
    (hk : t.KeepsMessages u) : u.Carries number l := by
  obtain ⟨hc, hs⟩ := hk
  rcases h with ⟨e, he, hn⟩ | hx
  · exact .inl ⟨e, hc he, hn⟩
  · exact .inr (hs ▸ hx)

/-- `b` presents no offer but the one that `a` presents. -/
abbrev Arbiter.KeepsOffer (a b : Arbiter) : Prop :=
  ∀ l, b.state = .presenting l → a.state = .presenting l ∧ b.number = a.number

theorem Arbiter.release_keepsOffer (a : Arbiter) : a.KeepsOffer a.release := by
  intro l hl
  unfold Arbiter.release at hl ⊢
  split at hl
  · cases hl
  · next hq => rw [if_neg hq]; exact ⟨hl, rfl⟩

theorem ArbiterInv.messageSent {a : Arbiter} (h : ArbiterInv a) (m : Upstream) : ArbiterInv (a.messageSent m) := by
  unfold Arbiter.messageSent Arbiter.noticeSent
  split
  · split
    · next hp =>
      split
      · exact h.withState (by simp [hp]) a.number _
      · exact h
    · exact h
  · exact h

/-- An offer that is still presented once a message has been sent was presented before, and the message was not its
NOTICE (R30). -/
theorem Arbiter.messageSent_presenting (a : Arbiter) {m : Upstream} {l : LevelIx}
    (h : (a.messageSent m).state = .presenting l) :
    a.state = .presenting l ∧ (a.messageSent m).number = a.number ∧
      ∀ c, m = .control c → ¬ c.isNotice a.number l = true := by
  unfold Arbiter.messageSent at h ⊢
  split at h
  · next number l' kind count =>
    unfold Arbiter.noticeSent at h ⊢
    split at h
    · split at h
      · cases h
      · next hp hn =>
        refine ⟨h, by simp [hn], ?_⟩
        rintro _ ⟨rfl⟩
        simp [ControlMessage.isNotice, Ne.symm hn]
    · next hp => exact absurd h (hp l)
  · next hm =>
    refine ⟨h, rfl, ?_⟩
    rintro c rfl hc
    cases c with
    | notice number l' kind count => exact hm number l' kind count rfl
    | _ => simp [ControlMessage.isNotice] at hc

/-! ## Selector entries (R51, R52, R72) -/

theorem tag?_good {b : Byte} {t : Tag} (h : tag? b = some t) : t ≠ 7 := by
  have hb : ∀ b : Byte, b.toNat ≤ 6 → b.setWidth 3 ≠ (7 : Tag) := by decide
  unfold tag? at h
  split at h
  · next hle => cases h; exact hb b hle
  · cases h

theorem tagMatch?_good {b : Byte} {t : Option Tag} (h : tagMatch? b = some t) : t ≠ some 7 := by
  unfold tagMatch? at h
  split at h
  · cases h; simp
  · obtain ⟨tag, htag, rfl⟩ := Option.map_eq_some_iff.1 h
    simpa using tag?_good htag

theorem step?_good {b : Byte} {i : Int} (h : step? b = some i) : -127 ≤ i ∧ i ≤ 127 ∧ i ≠ 0 := by
  revert i; revert b; decide

theorem action?_good {code : BitVec 3} {first second : Byte} {a : Action} (h : action? code first second = some a) :
    a.Good = true := by
  unfold action? at h
  split at h
  · cases h; rfl
  split at h
  · obtain ⟨l, -, rfl⟩ := Option.map_eq_some_iff.1 h; rfl
  split at h
  · obtain ⟨l, -, rfl⟩ := Option.map_eq_some_iff.1 h; rfl
  split at h
  · cases h; rfl
  split at h
  · simp only [Option.bind_eq_bind, Option.bind_eq_some_iff, Option.pure_def, Option.some.injEq] at h
    obtain ⟨t, -, i, hi, rfl⟩ := h
    simpa [Action.Good, and_assoc] using step?_good hi
  split at h
  · simp only [Option.bind_eq_bind, Option.bind_eq_some_iff, Option.pure_def, Option.some.injEq] at h
    obtain ⟨o, -, i, -, rfl⟩ := h
    rfl
  split at h
  · obtain ⟨t, ht, rfl⟩ := Option.map_eq_some_iff.1 h
    simpa [Action.Good] using tag?_good ht
  · cases h

/-- LOAD_SELECTOR writes good entries only (R72). -/
theorem selector?_good {b0 ports tag low high first second : Byte} {e : Selector}
    (h : selector? b0 ports tag low high first second = some e) : e.Good = true := by
  unfold selector? at h
  split at h
  · split at h
    · next hr =>
      obtain ⟨-, hp, hle⟩ := hr
      simp only [Option.bind_eq_bind, Option.bind_eq_some_iff, Option.pure_def, Option.some.injEq] at h
      obtain ⟨t, ht, a, ha, rfl⟩ := h
      simp only [Selector.Good, Bool.or_eq_true, Bool.and_eq_true, bne_iff_ne, decide_eq_true_eq]
      exact .inr ⟨⟨⟨⟨trivial, hp⟩, hle⟩, tagMatch?_good ht⟩, action?_good ha⟩
    · cases h
  · cases h; simp [Selector.Good]

/-- Every entry of a bank is good. -/
abbrev EntriesGood (v : Vector Slot 48) : Prop := ∀ i : EntryIx, v[i].entry.Good = true

theorem ClassifierInv.bank {c : Classifier} (h : ClassifierInv c) (which : Bank) : EntriesGood (c.bank which) := by
  obtain ⟨ha, hb⟩ := h
  cases which
  · exact ha
  · exact hb

theorem ClassifierInv.withBank {c : Classifier} (h : ClassifierInv c) (which : Bank) {v : Vector Slot 48}
    (hv : EntriesGood v) : ClassifierInv (c.withBank which v) := by
  obtain ⟨ha, hb⟩ := h
  cases which
  · exact ⟨hv, hb⟩
  · exact ⟨ha, hv⟩

theorem entriesGood_cold : EntriesGood (Vector.replicate 48 Slot.cold) :=
  forall_replicate (P := fun x : Slot => x.entry.Good = true) (by decide)

/-- Rewriting hit counts keeps the entries of a bank. -/
theorem EntriesGood.updateHits {v : Vector Slot 48} (h : EntriesGood v) (i : EntryIx) (f : Slot → Word) :
    EntriesGood (update v i fun x => { x with hits := f x }) :=
  forall_update (P := fun x : Slot => x.entry.Good = true) h i (h i)

/-! ## Tallies (R80 to R86) -/

/-- What a tally's rule says, item by item (R80). -/
theorem Tally.good_iff (t : Tally) :
    t.Good = true ↔
      (-32768 ≤ t.value ∧ t.value ≤ 32767) ∧ (1 ≤ t.hysteresis ∧ t.hysteresis ≤ 255) ∧
      (t.upper = none → t.upperArm = false) ∧
      (∀ u, t.upper = some u → (-32768 ≤ u ∧ u ≤ 32767) ∧ (t.upperArm = true → t.value < u)) ∧
      (t.lower = none → t.lowerArm = false) ∧
      (∀ l, t.lower = some l → (-32768 ≤ l ∧ l ≤ 32767) ∧ (t.lowerArm = true → l < t.value)) ∧
      (∀ u l, t.upper = some u → t.lower = some l → l < u) := by
  have armed (arm : Bool) (p : Prop) : arm = false ∨ p ↔ (arm = true → p) := by cases arm <;> simp
  unfold Tally.Good tallyRange
  cases t.upper <;> cases t.lower <;> simp [and_assoc, armed]

theorem clampTally_range (v : Int) : -32768 ≤ clampTally v ∧ clampTally v ≤ 32767 := by
  unfold clampTally
  omega

/-- The arms that a test leaves are good wherever the hysteresis is (R82, R83). -/
theorem Tally.step_good {t : Tally} (h : t.Good = true) (amount : Int) : (t.step amount).Good = true := by
  rw [Tally.good_iff] at h ⊢
  obtain ⟨-, hh, -, hu, -, hl, ho⟩ := h
  refine ⟨clampTally_range _, hh, ?_, fun u e => ⟨(hu u e).1, ?_⟩, ?_, fun l e => ⟨(hl l e).1, ?_⟩, ho⟩
  · intro e
    replace e : t.upper = none := e
    simp [Tally.step, Tally.testUpper, Tally.add, e]
  · replace e : t.upper = some u := e
    simp only [Tally.step, Tally.testUpper, Tally.add, e]
    split
    · simp
    · simp only [decide_eq_true_eq]; omega
  · intro e
    replace e : t.lower = none := e
    simp [Tally.step, Tally.testLower, Tally.add, e]
  · replace e : t.lower = some l := e
    simp only [Tally.step, Tally.testLower, Tally.add, e]
    split
    · simp
    · simp only [decide_eq_true_eq]; omega

/-- Re-evaluated arms are good for any value and settings in range (R86). -/
theorem Tally.reevaluate_good {t : Tally} (hv : -32768 ≤ t.value ∧ t.value ≤ 32767)
    (hh : 1 ≤ t.hysteresis ∧ t.hysteresis ≤ 255) (hu : ∀ u, t.upper = some u → -32768 ≤ u ∧ u ≤ 32767)
    (hl : ∀ l, t.lower = some l → -32768 ≤ l ∧ l ≤ 32767)
    (ho : ∀ u l, t.upper = some u → t.lower = some l → l < u) : t.reevaluate.Good = true := by
  rw [Tally.reevaluate_eq, Tally.good_iff]
  refine ⟨hv, hh, ?_, fun u e => ⟨hu u e, ?_⟩, ?_, fun l e => ⟨hl l e, ?_⟩, ho⟩
  · intro e; simp [upperArmAt, show t.upper = none from e]
  · simp only [upperArmAt, show t.upper = some u from e, Option.any_some, decide_eq_true_eq]; omega
  · intro e; simp [lowerArmAt, show t.lower = none from e]
  · simp only [lowerArmAt, show t.lower = some l from e, Option.any_some, decide_eq_true_eq]; omega

theorem Tally.clear_good {t : Tally} (h : t.Good = true) : t.clear.Good = true := by
  obtain ⟨-, hh, -, hu, -, hl, ho⟩ := (Tally.good_iff t).1 h
  exact Tally.reevaluate_good (by simp) hh (fun u e => (hu u e).1) (fun l e => (hl l e).1) ho

theorem threshold_range {present : Bool} {hi lo : Byte} {v : Int} (h : threshold present hi lo = some v) :
    -32768 ≤ v ∧ v ≤ 32767 := by
  unfold threshold at h
  split at h
  · cases h
    have h1 := (wordOf hi lo).le_toInt
    have h2 := (wordOf hi lo).toInt_lt
    omega
  · cases h

/-- CONFIGURE_TALLY leaves a good tally (R86, R87). -/
theorem Tally.configured_good {t : Tally} (h : t.Good = true) {flags uh ul lh ll hb target : Byte} {x : TallySettings}
    (hx : tallySettings? flags uh ul lh ll hb target = some x) :
    ({ t with upper := x.upper, lower := x.lower, hysteresis := x.hysteresis, target := x.target } :
      Tally).reevaluate.Good = true := by
  obtain ⟨hv, -⟩ := (Tally.good_iff t).1 h
  simp only [tallySettings?] at hx
  split at hx
  · next hr =>
    obtain ⟨-, hz, ho⟩ := hr
    obtain ⟨l, -, rfl⟩ := Option.map_eq_some_iff.1 hx
    refine Tally.reevaluate_good hv ⟨?_, ?_⟩ (fun u e => threshold_range e) (fun l e => threshold_range e) ?_
    · exact Nat.one_le_iff_ne_zero.2 fun e => hz (BitVec.eq_of_toNat_eq e)
    · have := hb.isLt; simp only; omega
    · intro u l hu hl
      rw [show threshold _ uh ul = some u from hu, show threshold _ lh ll = some l from hl] at ho
      exact of_decide_eq_true ho
  · cases hx

/-! ## Patterns and outputs (R91 to R102) -/

theorem pattern?_good {mark space count : Word} {tone flags completion : Byte} {x : Pattern}
    (h : pattern? mark space count tone flags completion = some x) : x.Good = true := by
  simp only [pattern?] at h
  split at h
  · next hr =>
    obtain ⟨hm, hc, -, hs, hl⟩ := hr
    simp only [Option.bind_eq_bind, Option.bind_eq_some_iff, Option.pure_def, Option.some.injEq] at h
    obtain ⟨t, -, l, -, rfl⟩ := h
    have hz : count ≠ 0 → count.toNat ≠ 0 := fun hne e => hne (BitVec.eq_of_toNat_eq e)
    simp only [Pattern.Good, Bool.and_eq_true, Bool.or_eq_true, bne_iff_ne, decide_eq_true_eq, Bool.not_eq_true']
    exact ⟨⟨⟨hm, hc⟩, hs⟩, hl.imp_right hz⟩
  · cases h

/-- What a burst's rule says, by the kind of its pattern (R95, R99 to R101). -/
theorem Burst.good_iff (b : Burst) :
    b.Good = true ↔
      b.copy.pattern.Good = true ∧ b.remaining ≤ 1000 ∧
      (b.copy.pattern.longMark = true → b.phase = .mark ∧ b.remaining = 1) ∧
      (b.copy.pattern.longMark = false → b.copy.pattern.count = 0 → b.remaining = 0) ∧
      (b.copy.pattern.longMark = false → b.copy.pattern.count ≠ 0 →
        1 ≤ b.remaining ∧ b.remaining ≤ b.copy.pattern.count) := by
  unfold Burst.Good
  by_cases hl : b.copy.pattern.longMark = true <;> by_cases hc : b.copy.pattern.count = 0 <;>
    simp [hl, hc, and_assoc]

theorem Snapshot.begin_good {x : Snapshot} (h : x.pattern.Good = true) : x.begin.Good = true := by
  have hc : x.pattern.count ≤ 1000 := by
    simp only [Pattern.Good, Bool.and_eq_true, decide_eq_true_eq] at h
    exact h.1.1.2
  rw [Burst.good_iff]
  cases hl : x.pattern.longMark with
  | true => simp [Snapshot.begin, hl, h]
  | false => simpa [Snapshot.begin, hl, h, hc] using Nat.one_le_iff_ne_zero.2

theorem Output.good_iff (o : Output) :
    o.Good = true ↔ (o.running = none → o.waiting = none) ∧ (∀ b, o.running = some b → b.Good = true) ∧
      ∀ x, o.waiting = some x → x.pattern.Good = true := by
  unfold Output.Good
  cases o.running <;> cases o.waiting <;> simp

theorem Output.start_good {o : Output} (h : o.Good = true) {x : Snapshot} (hx : x.pattern.Good = true) :
    (o.start x).Good = true := by
  rw [Output.good_iff] at h
  obtain ⟨hi, hb, hw⟩ := h
  cases hr : o.running with
  | none => rw [Output.start_idle x hr, Output.good_iff]; simp [Snapshot.begin_good hx, hi hr]
  | some b => rw [Output.start_running x hr, Output.good_iff]; simp [hr, hb b hr, hx]

theorem Output.next_good {o : Output} (h : o.Good = true) : o.next.Good = true := by
  obtain ⟨-, -, hw⟩ := (Output.good_iff o).1 h
  rw [Output.good_iff]
  cases ho : o.waiting with
  | none => simp [Output.next, ho]
  | some x => simp [Output.next, ho, Snapshot.begin_good (hw x ho)]

/-- A burst that goes on replaces the one that ran. -/
theorem Output.continues_good {o : Output} (h : o.Good = true) {b : Burst} (hb : b.Good = true) :
    Output.Good { o with running := some b } = true := by
  obtain ⟨-, -, hw⟩ := (Output.good_iff o).1 h
  rw [Output.good_iff]
  exact ⟨by simp, by simpa using hb, hw⟩

theorem Output.phaseEnds_good {o : Output} (h : o.Good = true) {b : Burst} (hb : b.Good = true) :
    (o.phaseEnds b).Good = true := by
  obtain ⟨hp, hm, hlong, hcont, hcount⟩ := (Burst.good_iff b).1 hb
  unfold Output.phaseEnds
  split
  · split
    · next hc =>
      simp only [Burst.continuous, Bool.and_eq_true, Bool.not_eq_true', beq_iff_eq] at hc
      obtain ⟨hl, hz⟩ := hc
      refine Output.continues_good h ((Burst.good_iff _).2 ⟨hp, hm, ?_, hcont, hcount⟩)
      simp [hl]
    · split
      · next hr =>
        refine Output.continues_good h ((Burst.good_iff _).2 ⟨hp, ?_, ?_, ?_, ?_⟩)
        · simp only; omega
        · intro hl; have := hlong hl; omega
        · intro hl hz; have := hcont hl hz; omega
        · intro hl hz; have := hcount hl hz; simp only; omega
      · exact Output.next_good h
  · split
    · exact Output.next_good h
    · refine Output.continues_good h ((Burst.good_iff _).2 ⟨hp, hm, ?_, hcont, hcount⟩)
      exact fun hl => ⟨rfl, (hlong hl).2⟩

theorem Output.stop_good (o : Output) : o.stop.Good = true := by simp [Output.stop, Output.Good]

end Sys2Proof.Machine
end

section
/-! PROOFS. O59: every shared operation, every command and every row keeps the tables legal. -/

namespace Sys2Proof.Machine

/-- The rules that O59 speaks of, by block. -/
structure TablesLegal (s : State) : Prop where
  arbiter : ArbiterInv s.arbiter
  notice : NoticeInv s = true
  classifier : ClassifierInv s.classifier
  tallies : ∀ i : TallyIx, s.tallies[i].Good = true
  signals : SignalInv s

namespace TablesLegal

variable {s : State}

/-! ## One block replaced -/

theorem withArbiter (h : TablesLegal s) {a : Arbiter} (ha : ArbiterInv a) (hk : s.arbiter.KeepsOffer a) :
    TablesLegal (s.withArbiter a) where
  arbiter := ha
  notice := by
    rw [noticeInv_iff]
    intro l hl
    obtain ⟨hs, hn⟩ := hk l hl
    rw [State.withArbiter_arbiter, hn]
    exact (noticeInv_iff s).1 h.notice l hs
  classifier := h.classifier
  tallies := h.tallies
  signals := h.signals

/-- The trunk unit may change as long as it carries each NOTICE that it carried. -/
theorem withTrunk_carries (h : TablesLegal s) {t : Trunk}
    (hk : ∀ number l, s.trunk.Carries number l → t.Carries number l) : TablesLegal (s.withTrunk t) where
  arbiter := h.arbiter
  notice := (noticeInv_iff _).2 fun l hl => hk _ l ((noticeInv_iff s).1 h.notice l hl)
  classifier := h.classifier
  tallies := h.tallies
  signals := h.signals

theorem withTrunk (h : TablesLegal s) {t : Trunk} (hk : s.trunk.KeepsMessages t) : TablesLegal (s.withTrunk t) :=
  h.withTrunk_carries fun _ _ hc => hc.mono hk

theorem withClassifier (h : TablesLegal s) {c : Classifier} (hc : ClassifierInv c) :
    TablesLegal (s.withClassifier c) :=
  ⟨h.arbiter, h.notice, hc, h.tallies, h.signals⟩

theorem withTallies (h : TablesLegal s) {v : Vector Tally 8} (hv : ∀ i : TallyIx, v[i].Good = true) :
    TablesLegal (s.withTallies v) :=
  ⟨h.arbiter, h.notice, h.classifier, hv, h.signals⟩

theorem withPatterns (h : TablesLegal s) {v : Vector (Option Pattern) 16}
    (hv : ∀ i : PatternIx, ∀ x ∈ v[i], x.Good = true) : TablesLegal (s.withPatterns v) :=
  ⟨h.arbiter, h.notice, h.classifier, h.tallies, hv, h.signals.2⟩

theorem withOutputs (h : TablesLegal s) {v : Vector Output 4} (hv : ∀ o : OutputIx, v[o].Good = true) :
    TablesLegal (s.withOutputs v) :=
  ⟨h.arbiter, h.notice, h.classifier, h.tallies, h.signals.1, hv⟩

theorem withPorts (h : TablesLegal s) (v : Vector Port 8) : TablesLegal (s.withPorts v) := ⟨h.1, h.2, h.3, h.4, h.5⟩

theorem withMemory (h : TablesLegal s) (m : Option Remembered) : TablesLegal (s.withMemory m) :=
  ⟨h.1, h.2, h.3, h.4, h.5⟩

theorem withTimer (h : TablesLegal s) (w : Word) : TablesLegal (s.withTimer w) := ⟨h.1, h.2, h.3, h.4, h.5⟩

theorem withRstnLow (h : TablesLegal s) (b : Bool) : TablesLegal (s.withRstnLow b) := ⟨h.1, h.2, h.3, h.4, h.5⟩

theorem withFreeReads (h : TablesLegal s) (n : Nat) : TablesLegal (s.withFreeReads n) := ⟨h.1, h.2, h.3, h.4, h.5⟩

theorem withPending (h : TablesLegal s) (q : List Instr) : TablesLegal (s.withPending q) := ⟨h.1, h.2, h.3, h.4, h.5⟩

/-! ## One item of a table replaced -/

theorem onPort (h : TablesLegal s) (p : PortIx) (f : Port → Port) : TablesLegal (s.onPort p f) := h.withPorts _

theorem onOutput (h : TablesLegal s) (o : OutputIx) {f : Output → Output} (hf : (f s.outputs[o]).Good = true) :
    TablesLegal (s.onOutput o f) :=
  h.withOutputs (forall_update (P := fun x : Output => x.Good = true) h.signals.2 o hf)

theorem onTally (h : TablesLegal s) (i : TallyIx) {f : Tally → Tally} (hf : (f s.tallies[i]).Good = true) :
    TablesLegal (s.onTally i f) :=
  h.withTallies (forall_update (P := fun x : Tally => x.Good = true) h.tallies i hf)

theorem onLevel (h : TablesLegal s) (l : LevelIx) {f : Level → Level} (hf : (f s.arbiter.levels[l]).PendingGood) :
    TablesLegal (s.onLevel l f) :=
  h.withArbiter (h.arbiter.updateLevel l hf) fun _ hl => ⟨hl, rfl⟩

theorem withBank (h : TablesLegal s) (which : Bank) {v : Vector Slot 48} (hv : EntriesGood v) :
    TablesLegal (s.withBank which v) :=
  h.withClassifier (h.classifier.withBank which hv)

theorem setDeferred (h : TablesLegal s) (p : PortIx) (b : Bool) : TablesLegal (s.setDeferred p b) :=
  h.withClassifier h.classifier

/-! ## The lanes -/

theorem queueControl (h : TablesLegal s) (m : ControlMessage) (rate : Option LinkRate) :
    TablesLegal (s.queueControl m rate) :=
  h.withTrunk ⟨List.subset_append_left _ _, rfl⟩

theorem overrun (h : TablesLegal s) : TablesLegal s.overrun := h.withTrunk ⟨List.Subset.refl _, rfl⟩

theorem alert (h : TablesLegal s) (content : AlertContent) : TablesLegal (s.alert content) := by
  unfold State.alert
  split
  · exact h.withTrunk ⟨List.subset_append_left _ _, rfl⟩
  · exact h.withTrunk ⟨List.Subset.refl _, rfl⟩

theorem queueResults (h : TablesLegal s) (p : PortIx) (outcome : SendOutcome) (entries : List TxEntry)
    (attempts : Nat) : TablesLegal (s.queueResults p outcome entries attempts) := by
  rw [State.queueResults_eq]
  exact h.withTrunk ⟨List.subset_append_left _ _, rfl⟩

theorem queueResult (h : TablesLegal s) (p : PortIx) (outcome : SendOutcome) (e : TxEntry) (attempts : Nat) :
    TablesLegal (s.queueResult p outcome e attempts) :=
  h.queueResults p outcome [e] attempts

theorem withReceiver (h : TablesLegal s) (receiver : Receiver) (awaitsMark : Bool) :
    TablesLegal (s.withTrunk { s.trunk with receiver, awaitsMark }) :=
  h.withTrunk ⟨List.Subset.refl _, rfl⟩

theorem reserve (h : TablesLegal s) : TablesLegal s.reserve := h.withTrunk ⟨List.Subset.refl _, rfl⟩

/-! ## Levels and offers -/

theorem assertLevel (h : TablesLegal s) (l : LevelIx) (source : Source) (data : Byte) (time : Word) :
    TablesLegal (s.assertLevel l source data time) := by
  refine h.onLevel l ?_
  rintro _ ⟨rfl⟩
  split
  · exact Record.first_good source data time
  · next r hr => exact Record.join_good (h.arbiter.pendingGood l r hr) source data time

theorem assertOptional (h : TablesLegal s) (l : Option LevelIx) (source : Source) (data : Byte) :
    TablesLegal (s.assertOptional l source data) := by
  cases l with
  | none => exact h
  | some l => exact h.assertLevel l source data s.timer

theorem withdrawLevel (h : TablesLegal s) (l : LevelIx) : TablesLegal (s.withdrawLevel l) :=
  h.onLevel l (Level.withdrawn_pendingGood _)

theorem complete (h : TablesLegal s) (l : LevelIx) : TablesLegal (s.complete l) :=
  h.withArbiter (h.arbiter.complete l) fun _ hl => ⟨hl, rfl⟩

/-- An offer puts its own NOTICE into the control lane (R28). -/
theorem makeOffer (h : TablesLegal s) : TablesLegal s.makeOffer := by
  rcases s.makeOffer_cases with ⟨he, -⟩ | ⟨l, r, -, hi, -, -, he⟩
  · rwa [he]
  · rw [he]
    refine ⟨h.arbiter.withState (by simp [hi]) _ _, (noticeInv_iff _).2 ?_, h.classifier, h.tallies, h.signals⟩
    intro l' hl
    cases hl
    exact .inl ⟨_, List.mem_append_right _ (List.mem_singleton.2 rfl), by simp [ControlMessage.isNotice]⟩

theorem whileRunning (h : TablesLegal s) {f : State → State} (hf : TablesLegal (f s)) :
    TablesLegal (s.whileRunning f) := by
  unfold State.whileRunning
  split
  · exact h
  · exact hf

/-! ## Ports (chapters 6 and 7) -/

theorem emptyQueue (h : TablesLegal s) (p : PortIx) (outcome : SendOutcome) : TablesLegal (s.emptyQueue p outcome) :=
  (h.queueResults p outcome _ _).onPort p _

theorem enterPresent (h : TablesLegal s) (p : PortIx) : TablesLegal (s.enterPresent p) :=
  (h.onPort p _).assertOptional _ _ _

theorem enterFaulted (h : TablesLegal s) (p : PortIx) (code : Byte) : TablesLegal (s.enterFaulted p code) :=
  ((h.onPort p _).emptyQueue p _).assertOptional _ _ _

theorem goSilent (h : TablesLegal s) (p : PortIx) : TablesLegal (s.goSilent p) :=
  ((h.emptyQueue p _).onPort p _).assertOptional _ _ _

theorem disablePort (h : TablesLegal s) (p : PortIx) : TablesLegal (s.disablePort p) :=
  (((h.onPort p _).emptyQueue p _).onPort p _).setDeferred p _

theorem flushTx (h : TablesLegal s) (p : PortIx) : TablesLegal (s.flushTx p) := (h.queueResults p _ _ _).onPort p _

theorem receivedFrame (h : TablesLegal s) (p : PortIx) (tag : Tag) (data : Byte) :
    TablesLegal (s.receivedFrame p tag data) := by
  unfold State.receivedFrame
  dsimp only
  split
  · split
    · exact h.onPort p _
    · exact (h.onPort p _).onPort p _
  · exact ((h.onPort p _).enterPresent p).onPort p _
  · exact (h.onPort p _).onPort p _
  · exact (h.onPort p _).onPort p _

theorem lineError (h : TablesLegal s) (p : PortIx) : TablesLegal (s.lineError p) := by
  unfold State.lineError
  dsimp only
  split
  · exact h.onPort p _
  · exact h.onPort p _
  · split
    · exact ((h.onPort p _).onPort p _).enterFaulted p _
    · exact (h.onPort p _).onPort p _

theorem deliverHead (h : TablesLegal s) (p : PortIx) (e : TxEntry) : TablesLegal (s.deliverHead p e) :=
  (h.queueResult p _ e _).onPort p _

theorem failHead (h : TablesLegal s) (p : PortIx) (outcome : SendOutcome) (e : TxEntry) :
    TablesLegal (s.failHead p outcome e) := by
  have hleft := (h.queueResult p outcome e s.ports[p].attempts).onPort p
  unfold State.failHead
  dsimp only
  split
  · exact (hleft _).enterFaulted p _
  · exact (hleft _).onPort p _

theorem headOutcome (h : TablesLegal s) (p : PortIx) (result : AttemptResult) :
    TablesLegal (s.headOutcome p result) := by
  unfold State.headOutcome
  split
  · exact h
  · split
    · exact h.deliverHead p _
    · split
      · exact h.onPort p _
      · exact h.failHead p _ _
    · split
      · exact h.onPort p _
      · exact h.failHead p _ _

theorem attemptEnds (h : TablesLegal s) (p : PortIx) (result : AttemptResult) :
    TablesLegal (s.attemptEnds p result) := by
  unfold State.attemptEnds
  dsimp only
  split
  · exact h.onPort p _
  · split
    · split
      · exact (h.onPort p _).enterPresent p
      · exact h.onPort p _
    · exact (h.onPort p _).headOutcome p result

theorem inboundEnds (h : TablesLegal s) (p : PortIx) : TablesLegal (s.inboundEnds p) := by
  unfold State.inboundEnds
  dsimp only
  split
  · split
    · exact h
    · split
      · exact h.onPort p _
      · split
        · exact (h.onPort p _).receivedFrame p _ _
        · exact (h.onPort p _).lineError p
  · exact h

theorem inboundBreaks (h : TablesLegal s) (p : PortIx) : TablesLegal (s.inboundBreaks p) := by
  unfold State.inboundBreaks
  dsimp only
  split
  · split
    · split
      · exact h.onPort p _
      · exact (h.onPort p _).lineError p
    · exact h
  · exact h

theorem attemptSlotEnds (h : TablesLegal s) (p : PortIx) : TablesLegal (s.attemptSlotEnds p) := by
  unfold State.attemptSlotEnds
  split
  · split
    · exact h
    · exact h.attemptEnds p _
  · exact h

theorem attemptTimesOut (h : TablesLegal s) (p : PortIx) : TablesLegal (s.attemptTimesOut p) := by
  unfold State.attemptTimesOut
  split
  · exact h.attemptEnds p _
  · split
    · exact h.attemptEnds p _
    · exact h
  · exact h

/-! ## The classifier (chapter 3) -/

theorem countHit (h : TablesLegal s) (i : EntryIx) : TablesLegal (s.countHit i) :=
  h.withBank _ ((h.classifier.bank _).updateHits i _)

theorem forward (h : TablesLegal s) (p : PortIx) (f : Frame) (entry : Option EntryIx) :
    TablesLegal (s.forward p f entry) := by
  unfold State.forward
  split
  · exact h.onPort p _
  · exact h.withTrunk ⟨List.Subset.refl _, rfl⟩

theorem assertAll (h : TablesLegal s) (l : LevelIx) (source : Source) (time : Word) (crossed : List Byte) :
    TablesLegal (crossed.foldl (fun t data => t.assertLevel l source data time) s) := by
  induction crossed generalizing s with
  | nil => exact h
  | cons data rest ih => exact ih (h.assertLevel l source data time)

theorem tallyStep (h : TablesLegal s) (p : PortIx) (f : Frame) (i : TallyIx) (amount : Int) :
    TablesLegal (s.tallyStep p f i amount) := by
  have hstep := h.onTally i (f := fun t => t.step amount) (Tally.step_good (h.tallies i) amount)
  unfold State.tallyStep
  dsimp only
  split
  · exact hstep
  · exact hstep.assertAll _ _ _ _

theorem startOutput (h : TablesLegal s) (o : OutputIx) {i : PatternIx} {x : Pattern} (hx : s.patterns[i] = some x) :
    TablesLegal (s.onOutput o fun y => y.start ⟨i, x⟩) :=
  h.onOutput o (Output.start_good (h.signals.2 o) (h.signals.1 i x hx))

theorem signalAction (h : TablesLegal s) (o : OutputIx) (i : PatternIx) : TablesLegal (s.signalAction o i) := by
  unfold State.signalAction
  split
  · exact h.onOutput o (h.signals.2 o)
  · next x hx => exact h.startOutput o hx

theorem act (h : TablesLegal s) (p : PortIx) (f : Frame) (i : EntryIx) (relays : Bool) (a : Action) :
    TablesLegal (s.act p f i relays a) := by
  cases a with
  | discard => exact h
  | assert l => exact h.assertLevel l _ _ _
  | withdraw l => exact h.withdrawLevel l
  | forward =>
    cases relays
    · exact h
    · exact h.forward p f _
  | tally t amount => exact h.tallyStep p f t amount
  | signal o x => exact h.signalAction o x
  | answer tag data => exact h.onPort p _

theorem actAll (h : TablesLegal s) (p : PortIx) (f : Frame) (list : List EntryIx) (forwarded : Bool) :
    TablesLegal (s.actAll p f list forwarded) := by
  induction list generalizing s forwarded with
  | nil => exact h
  | cons i rest ih => exact ih ((h.countHit i).act p f i _ _) _

theorem disposeByDefault (h : TablesLegal s) (p : PortIx) (f : Frame) : TablesLegal (s.disposeByDefault p f) := by
  unfold State.disposeByDefault
  split
  · exact h.forward p f none
  · exact h

theorem classifyFrame (h : TablesLegal s) (p : PortIx) (f : Frame) : TablesLegal (s.classifyFrame p f) := by
  unfold State.classifyFrame
  dsimp only
  split
  · exact h.setDeferred p _
  · refine TablesLegal.setDeferred (TablesLegal.onPort ?_ p _) p _
    split
    · exact h.disposeByDefault p f
    · exact h.actAll p f _ _

theorem moveGrant (h : TablesLegal s) (p : PortIx) : TablesLegal (s.moveGrant p) := h.withClassifier h.classifier

theorem classify (h : TablesLegal s) : TablesLegal s.classify := by
  unfold State.classify
  split
  · exact h
  · split
    · exact h
    · exact (h.moveGrant _).classifyFrame _ _

theorem phaseEnds (h : TablesLegal s) (o : OutputIx) : TablesLegal (s.phaseEnds o) := by
  unfold State.phaseEnds
  split
  · exact h
  · next b hb =>
    have hgood := ((Output.good_iff _).1 (h.signals.2 o)).2.1 b hb
    dsimp only
    split
    · have htold := h.assertOptional b.copy.pattern.completion (.signal o) (number8 b.copy.index)
      exact htold.onOutput o (Output.phaseEnds_good (htold.signals.2 o) hgood)
    · exact h.onOutput o (Output.phaseEnds_good (h.signals.2 o) hgood)

/-! ## The handshake (chapter 2) -/

/-- An offer that has ended is presented no longer. -/
theorem endOffer (h : TablesLegal s) : TablesLegal (s.withArbiter s.arbiter.endOffer) :=
  h.withArbiter (h.arbiter.clearLapses .idle) fun _ hl => by cases hl

theorem taken (h : TablesLegal s) {l : LevelIx} {r : Record} (he : s.arbiter.eligible l = true)
    (hr : s.arbiter.levels[l].pending = some r) : TablesLegal (s.taken l r) := by
  have hpushed := (h.withArbiter (h.arbiter.push he hr) fun _ hl => ⟨hl, rfl⟩).queueControl
    (.detail (.taken s.arbiter.number l r)) none
  unfold State.taken
  dsimp only
  split
  · exact (hpushed.complete l).endOffer
  · exact hpushed.endOffer

theorem take (h : TablesLegal s) (number : Byte) : TablesLegal (s.take number) := by
  unfold State.take
  split
  · split
    · exact h.queueControl _ _
    · split
      · next r hr he => exact h.taken he hr
      · exact (h.queueControl _ _).endOffer
  · exact h.overrun

theorem done (h : TablesLegal s) (value : Byte) : TablesLegal (s.done value) := by
  unfold State.done
  split
  · split
    · exact h.complete _
    · exact h.alert _
  · split
    · exact h.complete _
    · exact h.alert _

theorem recallTaken (h : TablesLegal s) (value : Byte) : TablesLegal (s.recall value) := by
  unfold State.recall
  split
  · split
    · exact h.queueControl _ _
    · exact h.alert _
  · exact h.overrun

/-- A lapse below the lapse limit leaves the count below 15; at the limit the arbiter enters QUIESCENT (R40, R42). -/
theorem lapse (h : TablesLegal s) (hq : s.arbiter.state ≠ .quiescent) (l : LevelIx) : TablesLegal (s.lapse l) := by
  obtain ⟨hn, hs, hl, ht, ht', hp, hp', -, hc⟩ := h.arbiter
  have hc := hc hq
  unfold State.lapse
  dsimp only
  split
  · refine TablesLegal.alert (h.withArbiter ?_ ?_) _
    · exact ⟨hn, hs, hl, ht, ht', hp, hp', hc, by simp⟩
    · exact fun _ hl => by cases hl
  · exact h.withArbiter ⟨hn, hs, hl, ht, ht', hp, hp', hc, fun _ => by simp only; omega⟩ fun _ hl => by cases hl

/-! ## Resets (Table 0-4) -/

theorem resetArbiterScope (h : TablesLegal s) : TablesLegal s.resetArbiterScope :=
  h.withArbiter h.arbiter.resetRecords fun _ hl => by cases hl

/-- Where no offer is presented, the trunk unit may be replaced. -/
theorem withTrunk_idle (h : TablesLegal s) (hi : s.arbiter.state = .idle) (t : Trunk) : TablesLegal (s.withTrunk t) :=
  ⟨h.arbiter, (noticeInv_iff _).2 fun l hl => absurd (hi.symm.trans hl) (by simp), h.classifier, h.tallies, h.signals⟩

theorem resetOutputs_good : ∀ o : OutputIx, resetOutputs[o].Good = true := by decide

theorem resetTrafficScope (h : TablesLegal s) : TablesLegal s.resetTrafficScope :=
  ((((h.resetArbiterScope.withClassifier (c := s.classifier.resetTraffic) h.classifier).withTallies
    (forall_mapAll (P := fun t : Tally => t.Good = true) fun i => Tally.clear_good (h.tallies i))).withOutputs
      resetOutputs_good).withPorts _).withTrunk_idle rfl _

theorem resetConfigScope (h : TablesLegal s) : TablesLegal s.resetConfigScope :=
  ((((((h.withArbiter (.resetConfig s.arbiter) fun _ hl => by cases hl).withClassifier
    ⟨entriesGood_cold, entriesGood_cold⟩).withTallies
      (forall_replicate (P := fun t : Tally => t.Good = true) (by decide))).withPatterns
      (forall_replicate (P := fun x : Option Pattern => ∀ y ∈ x, y.Good = true) (by simp))).withOutputs
      resetOutputs_good).withPorts _).withTrunk_idle rfl _

theorem resetLink (h : TablesLegal s) : TablesLegal s.resetLink := h.resetTrafficScope.withMemory none

theorem reset : TablesLegal State.reset := by
  refine ⟨arbiterInv_cold, rfl, ⟨entriesGood_cold, entriesGood_cold⟩, ?_, ?_, ?_⟩
  · exact forall_replicate (P := fun t : Tally => t.Good = true) (by decide)
  · exact forall_replicate (P := fun x : Option Pattern => ∀ y ∈ x, y.Good = true) (by simp)
  · exact resetOutputs_good

theorem resetCold (s : State) : TablesLegal s.resetCold :=
  ((((reset.withTrunk_idle rfl s.trunk.resetCold).withRstnLow true).withFreeReads s.freeReads).withPending s.pending)

/-! ## Requests (R178 to R185) -/

theorem inRange (h : TablesLegal s) {α : Type} {x : Option α} {k : α → Executed}
    (hk : ∀ a, x = some a → TablesLegal (k a).state) : TablesLegal (inRange s x k).state := by
  cases x with
  | none => exact h
  | some a => exact hk a rfl

theorem cmdSend (h : TablesLegal s) (sequence port tag data confirm : Byte) :
    TablesLegal (cmdSend sequence port tag data confirm s).state := by
  refine h.inRange fun p _ => h.inRange fun t _ => h.inRange fun confirmed _ => ?_
  dsimp only
  split
  · exact h
  · split
    · exact h
    · split
      · exact h
      · cases confirmed
        · exact h.onPort p _
        · exact (h.onPort p _).reserve

theorem cmdGetStatus (h : TablesLegal s) (arguments : List Byte) : TablesLegal (cmdGetStatus arguments s).state := by
  unfold Machine.cmdGetStatus
  split
  · refine h.inRange fun clear _ => ?_
    cases clear
    · exact h
    · exact h.withTrunk ⟨List.Subset.refl _, rfl⟩
  · exact h

theorem cmdSetLink (h : TablesLegal s) (arguments : List Byte) : TablesLegal (cmdSetLink arguments s).state := by
  unfold Machine.cmdSetLink
  split
  · exact h.inRange fun _ _ => h
  · exact h

theorem resetOf (h : TablesLegal s) {scope : Byte} {f : State → State} (hf : resetOf scope = some f) :
    TablesLegal (f s) := by
  unfold Machine.resetOf at hf
  split at hf
  · cases hf; exact h.resetArbiterScope
  split at hf
  · cases hf; exact h.resetTrafficScope
  split at hf
  · cases hf; exact h.resetConfigScope
  · cases hf

theorem cmdReset (h : TablesLegal s) (arguments : List Byte) : TablesLegal (cmdReset arguments s).state := by
  unfold Machine.cmdReset
  split
  · exact h.inRange fun _ hf => h.resetOf hf
  · exact h

theorem cmdConfigureLevel (h : TablesLegal s) (arguments : List Byte) :
    TablesLegal (cmdConfigureLevel arguments s).state := by
  unfold Machine.cmdConfigureLevel
  split
  · exact h.inRange fun l _ => h.inRange fun _ _ => h.inRange fun _ _ => h.onLevel l (h.arbiter.pendingGood l)
  · exact h

theorem cmdConfigureBand (h : TablesLegal s) (arguments : List Byte) :
    TablesLegal (cmdConfigureBand arguments s).state := by
  unfold Machine.cmdConfigureBand
  split
  · exact h.inRange fun _ _ => h.inRange fun _ _ => h.inRange fun _ _ =>
      h.withArbiter h.arbiter fun _ hl => ⟨hl, rfl⟩
  · exact h

theorem mapMasks (h : TablesLegal s) (f : LevelIx → Bool → Bool) : TablesLegal (s.mapMasks f) := by
  refine h.withArbiter (h.arbiter.withLevels fun l => ?_) fun _ hl => ⟨hl, rfl⟩
  simpa using h.arbiter.pendingGood l

theorem cmdSetMasks (h : TablesLegal s) (arguments : List Byte) : TablesLegal (cmdSetMasks arguments s).state := by
  unfold Machine.cmdSetMasks
  split
  · exact h.inRange fun f _ => h.mapMasks f
  · exact h

theorem cmdAssertLevel (h : TablesLegal s) (arguments : List Byte) :
    TablesLegal (cmdAssertLevel arguments s).state := by
  unfold Machine.cmdAssertLevel
  split
  · exact h.inRange fun l _ => h.assertLevel l _ _ _
  · exact h

theorem cmdWithdrawLevel (h : TablesLegal s) (arguments : List Byte) :
    TablesLegal (cmdWithdrawLevel arguments s).state := by
  unfold Machine.cmdWithdrawLevel
  split
  · exact h.inRange fun l _ => h.withdrawLevel l
  · exact h

theorem cmdReadLevel (h : TablesLegal s) (arguments : List Byte) : TablesLegal (cmdReadLevel arguments s).state := by
  unfold Machine.cmdReadLevel
  split
  · exact h.inRange fun _ _ => h
  · exact h

/-- SET_ARBITER writes limits in their ranges only (R48). -/
theorem cmdSetArbiter (h : TablesLegal s) (arguments : List Byte) :
    TablesLegal (cmdSetArbiter arguments s).state := by
  unfold Machine.cmdSetArbiter
  split
  · refine h.inRange fun mode _ => ?_
    split
    · next hlim =>
      simp only [limitsOk, Bool.and_eq_true, decide_eq_true_eq] at hlim
      obtain ⟨⟨⟨ht, ht'⟩, hp⟩, hp'⟩ := hlim
      obtain ⟨hn, hs, hl, -, -, -, -, hc⟩ := h.arbiter
      exact h.withArbiter ⟨hn, hs, hl, ht, ht', hp, hp', hc⟩ fun _ hl => ⟨hl, rfl⟩
    · exact h
  · exact h

theorem cmdLoadSelector (h : TablesLegal s) (arguments : List Byte) :
    TablesLegal (cmdLoadSelector arguments s).state := by
  unfold Machine.cmdLoadSelector
  split
  · refine h.inRange fun i _ => h.inRange fun e he => h.withBank _ ?_
    exact forall_update (P := fun x : Slot => x.entry.Good = true) (h.classifier.bank _) i (selector?_good he)
  · exact h

theorem cmdClearShadow (h : TablesLegal s) (arguments : List Byte) :
    TablesLegal (cmdClearShadow arguments s).state := by
  unfold Machine.cmdClearShadow
  split
  · exact h.withBank _ entriesGood_cold
  · exact h

theorem cmdCopyActive (h : TablesLegal s) (arguments : List Byte) : TablesLegal (cmdCopyActive arguments s).state := by
  unfold Machine.cmdCopyActive
  split
  · exact h.withBank _ (forall_mapAll (P := fun x : Slot => x.entry.Good = true) (h.classifier.bank _))
  · exact h

theorem cmdCommitSelectors (h : TablesLegal s) (arguments : List Byte) :
    TablesLegal (cmdCommitSelectors arguments s).state := by
  unfold Machine.cmdCommitSelectors
  split
  · exact h.withClassifier h.classifier
  · exact h

theorem cmdReadSelector (h : TablesLegal s) (arguments : List Byte) :
    TablesLegal (cmdReadSelector arguments s).state := by
  unfold Machine.cmdReadSelector
  split
  · refine h.inRange fun which _ => h.inRange fun i _ => h.inRange fun clear _ => ?_
    cases clear
    · exact h
    · exact h.withBank which ((h.classifier.bank which).updateHits i _)
  · exact h

theorem cmdConfigureTally (h : TablesLegal s) (arguments : List Byte) :
    TablesLegal (cmdConfigureTally arguments s).state := by
  unfold Machine.cmdConfigureTally
  split
  · exact h.inRange fun i _ => h.inRange fun x hx => h.onTally i (Tally.configured_good (h.tallies i) hx)
  · exact h

theorem cmdReadTally (h : TablesLegal s) (arguments : List Byte) : TablesLegal (cmdReadTally arguments s).state := by
  unfold Machine.cmdReadTally
  split
  · refine h.inRange fun i _ => h.inRange fun clear _ => ?_
    cases clear
    · exact h
    · exact h.onTally i (Tally.clear_good (h.tallies i))
  · exact h

theorem cmdLoadPattern (h : TablesLegal s) (arguments : List Byte) :
    TablesLegal (cmdLoadPattern arguments s).state := by
  unfold Machine.cmdLoadPattern
  split
  · refine h.inRange fun i _ => h.inRange fun x hx => h.withPatterns ?_
    refine forall_update (P := fun x : Option Pattern => ∀ y ∈ x, y.Good = true) h.signals.1 i ?_
    simpa using pattern?_good hx
  · exact h

theorem cmdStartSignal (h : TablesLegal s) (arguments : List Byte) :
    TablesLegal (cmdStartSignal arguments s).state := by
  unfold Machine.cmdStartSignal
  split
  · refine h.inRange fun o _ => h.inRange fun i _ => ?_
    split
    · exact h
    · next x hx => exact h.startOutput o hx
  · exact h

theorem cmdStopSignal (h : TablesLegal s) (arguments : List Byte) : TablesLegal (cmdStopSignal arguments s).state := by
  unfold Machine.cmdStopSignal
  split
  · exact h.inRange fun o _ => h.onOutput o (Output.stop_good _)
  · exact h

theorem cmdReadSignal (h : TablesLegal s) (arguments : List Byte) : TablesLegal (cmdReadSignal arguments s).state := by
  unfold Machine.cmdReadSignal
  split
  · exact h.inRange fun _ _ => h
  · exact h

theorem cmdConfigurePort (h : TablesLegal s) (arguments : List Byte) :
    TablesLegal (cmdConfigurePort arguments s).state := by
  unfold Machine.cmdConfigurePort
  split
  · exact h.inRange fun p _ => h.inRange fun _ _ => h.onPort p _
  · exact h

theorem controlOf (h : TablesLegal s) {action : Byte} {f : PortIx → State → Executed}
    (hf : controlOf action = some f) (p : PortIx) : TablesLegal (f p s).state := by
  unfold Machine.controlOf at hf
  split at hf
  · cases hf
    unfold controlEnable
    split
    · exact h.onPort p _
    · exact h.onPort p _
    · exact h
  split at hf
  · cases hf
    unfold controlDisable
    split
    · exact h
    · exact h.disablePort p
  split at hf
  · cases hf
    unfold controlProbeNow
    split
    · exact h.onPort p _
    · exact h
  split at hf
  · cases hf
    exact h.flushTx p
  · cases hf

theorem cmdPortControl (h : TablesLegal s) (arguments : List Byte) :
    TablesLegal (cmdPortControl arguments s).state := by
  unfold Machine.cmdPortControl
  split
  · exact h.inRange fun p _ => h.inRange fun _ hf => h.controlOf hf p
  · exact h

theorem cmdReadPort (h : TablesLegal s) (arguments : List Byte) : TablesLegal (cmdReadPort arguments s).state := by
  unfold Machine.cmdReadPort
  split
  · refine h.inRange fun p _ => h.inRange fun clear _ => ?_
    have hdrawn : TablesLegal (if s.ports[p].line.heldWithoutReason then s.withFreeReads (s.freeReads + 1) else s) := by
      split
      · exact h.withFreeReads _
      · exact h
    cases clear
    · exact hdrawn
    · exact hdrawn.onPort p _
  · exact h

/-- Whatever a command carries out keeps the tables legal (Table 9-4). -/
theorem runCommand (h : TablesLegal s) (c : Command) (arguments : List Byte) :
    TablesLegal (runCommand c arguments s).state := by
  cases c with
  | identify => cases arguments <;> exact h
  | getStatus => exact h.cmdGetStatus arguments
  | setLink => exact h.cmdSetLink arguments
  | reset => exact h.cmdReset arguments
  | configureLevel => exact h.cmdConfigureLevel arguments
  | configureBand => exact h.cmdConfigureBand arguments
  | setMasks => exact h.cmdSetMasks arguments
  | assertLevel => exact h.cmdAssertLevel arguments
  | withdrawLevel => exact h.cmdWithdrawLevel arguments
  | readLevel => exact h.cmdReadLevel arguments
  | setArbiter => exact h.cmdSetArbiter arguments
  | readArbiter => cases arguments <;> exact h
  | loadSelector => exact h.cmdLoadSelector arguments
  | clearShadow => exact h.cmdClearShadow arguments
  | copyActive => exact h.cmdCopyActive arguments
  | commitSelectors => exact h.cmdCommitSelectors arguments
  | readSelector => exact h.cmdReadSelector arguments
  | configureTally => exact h.cmdConfigureTally arguments
  | readTally => exact h.cmdReadTally arguments
  | loadPattern => exact h.cmdLoadPattern arguments
  | startSignal => exact h.cmdStartSignal arguments
  | stopSignal => exact h.cmdStopSignal arguments
  | readSignal => exact h.cmdReadSignal arguments
  | configurePort => exact h.cmdConfigurePort arguments
  | portControl => exact h.cmdPortControl arguments
  | readPort => exact h.cmdReadPort arguments

theorem cmdAny (h : TablesLegal s) (code : Byte) (arguments : List Byte) :
    TablesLegal (cmdAny code arguments s).state := by
  unfold Machine.cmdAny
  split
  · exact h
  · exact h.runCommand _ arguments

theorem sequenced (h : TablesLegal s) (sequence code : Byte) (toSend : Bool) {body : State → Executed}
    (hb : TablesLegal (body s).state) : TablesLegal (s.sequenced sequence code toSend body) := by
  unfold State.sequenced
  split
  · split
    · exact h.queueControl _ _
    · exact h.overrun
  · split
    · exact (hb.withMemory _).queueControl _ _
    · exact h.overrun

/-- A message that is heard leaves the tables legal for its owner (R41, R163). -/
theorem onMessage (h : TablesLegal s) {owner : State → State} (ho : ∀ t, TablesLegal t → TablesLegal (owner t)) :
    TablesLegal (s.onMessage owner) := by
  unfold State.onMessage
  split
  · exact ho _ ((h.withReceiver .hunt false).withArbiter h.arbiter.release s.arbiter.release_keepsOffer)
  · exact h

/-- A row of a command is that command as a message (R185, R199). -/
theorem command (h : TablesLegal s) (c : Command) (sequence : Byte) (arguments : List Byte) :
    TablesLegal (s.command c sequence (Machine.runCommand c arguments)) :=
  h.onMessage fun _ ht => ht.sequenced sequence _ _ (ht.runCommand c arguments)

/-! ## The trunk unit (chapter 8) -/

theorem countLengthError (h : TablesLegal s) : TablesLegal s.countLengthError :=
  h.withTrunk ⟨List.Subset.refl _, rfl⟩

theorem countGapAbort (h : TablesLegal s) : TablesLegal s.countGapAbort := h.withTrunk ⟨List.Subset.refl _, rfl⟩

theorem countCheckError (h : TablesLegal s) : TablesLegal s.countCheckError :=
  h.withTrunk ⟨List.Subset.refl _, rfl⟩

theorem sampleStop (h : TablesLegal s) (framingError : Bool) : TablesLegal (s.sampleStop framingError) :=
  h.withTrunk ⟨List.Subset.refl _, rfl⟩

theorem handCommand (h : TablesLegal s) (m : TrunkMessage) : TablesLegal (s.handCommand m) := by
  unfold State.handCommand
  split
  · exact h.sequenced _ _ _ (h.cmdAny _ _)
  · exact h.alert _

theorem dispatch (h : TablesLegal s) (m : TrunkMessage) : TablesLegal (s.dispatch m) := by
  unfold State.dispatch
  split
  · split
    · exact h.take _
    · exact h.alert _
  split
  · split
    · exact h.done _
    · exact h.alert _
  split
  · split
    · exact h.recallTaken _
    · exact h.alert _
  split
  · split
    · exact h.sequenced _ _ _ (h.cmdSend ..)
    · exact h.alert _
  split
  · exact h.handCommand m
  · exact h.alert _

theorem judge (h : TablesLegal s) (bytes : List Byte) (damaged : Bool) : TablesLegal (s.judge bytes damaged) := by
  unfold State.judge
  split
  · exact h.countCheckError
  · split
    · split
      · exact h.onMessage fun _ ht => ht.dispatch _
      · exact h.countCheckError
    · exact h.countCheckError

theorem collectByte (h : TablesLegal s) (collected : List Byte) (damaged : Bool) (value : Byte) :
    TablesLegal (s.collectByte collected damaged value) := by
  unfold State.collectByte
  split
  · split
    · exact h.countLengthError
    · exact h.withTrunk ⟨List.Subset.refl _, rfl⟩
  · split
    · exact h.withTrunk ⟨List.Subset.refl _, rfl⟩
    · exact h.judge _ _

theorem takeCharacter (h : TablesLegal s) (value : Byte) (framingError : Bool) :
    TablesLegal (s.takeCharacter value framingError) := by
  unfold State.takeCharacter
  split
  · split
    · exact h.withTrunk ⟨List.Subset.refl _, rfl⟩
    · exact h
  · exact h.collectByte _ _ _
  · exact h

theorem receiveCharacter (h : TablesLegal s) (value : Byte) (framingError : Bool) :
    TablesLegal (s.receiveCharacter value framingError) := by
  unfold State.receiveCharacter
  split
  · exact h
  · exact (h.sampleStop _).takeCharacter _ _

/-- A NOTICE that begins goes from the control lane into transmission (R166). -/
theorem beginControl (h : TablesLegal s) {e : ControlEntry} {rest : List ControlEntry}
    (hc : s.trunk.control = e :: rest) (hs : s.trunk.sending = none) : TablesLegal (s.beginControl e rest) := by
  have hbegun : TablesLegal (s.withTrunk { s.trunk with
      control := rest
      sending := some (s.trunk.transmission (.control e.message) e.pendingRate)
      sequence := s.trunk.sequence + 1
      controlRun := if s.trunk.relays.isEmpty then 0 else s.trunk.controlRun + 1 }) := by
    refine h.withTrunk_carries fun number l hcar => ?_
    rcases hcar with ⟨e', he', hn⟩ | ⟨x, m, hx, -⟩
    · rw [hc] at he'
      rcases List.mem_cons.1 he' with rfl | he'
      · exact .inr ⟨_, _, rfl, rfl, hn⟩
      · exact .inl ⟨e', he', hn⟩
    · simp [hs] at hx
  unfold State.beginControl
  dsimp only
  split
  · exact hbegun
  · exact hbegun.makeOffer

theorem beginRelay (h : TablesLegal s) (r : Relay) (rest : List Relay) (hs : s.trunk.sending = none) :
    TablesLegal (s.beginRelay r rest) := by
  refine h.withTrunk_carries fun number l hcar => ?_
  rcases hcar with hq | ⟨x, m, hx, -⟩
  · exact .inl hq
  · simp [hs] at hx

theorem beginTransmission (h : TablesLegal s) : TablesLegal s.beginTransmission := by
  unfold State.beginTransmission
  split
  · next hs hc _ => exact h.beginControl hc hs
  · next hs _ _ => exact h.beginRelay _ _ hs
  · next hs hc _ =>
    split
    · exact h.beginControl hc hs
    · exact h.beginRelay _ _ hs
  · exact h

/-- A NOTICE that has been sent ends the presenting of its own offer (R30), so no presented offer loses its NOTICE. -/
theorem endTransmission (h : TablesLegal s) : TablesLegal s.endTransmission := by
  unfold State.endTransmission
  split
  · exact h
  · next x hx =>
    refine ⟨h.arbiter.messageSent x.message, (noticeInv_iff _).2 fun l hl => ?_, h.classifier, h.tallies, h.signals⟩
    obtain ⟨hp, hn, hother⟩ := s.arbiter.messageSent_presenting hl
    rw [State.withArbiter_arbiter, hn]
    rcases (noticeInv_iff s).1 h.notice l hp with hq | ⟨y, m, hy, hm, hm'⟩
    · exact .inl hq
    · cases hx.symm.trans hy
      exact absurd hm' (hother m hm)

/-! ## Breaks and the two rows of a COLD reset (R165, R173, R177) -/

theorem detectBreak (h : TablesLegal s) : TablesLegal s.detectBreak :=
  h.resetLink.withTrunk ⟨List.Subset.refl _, rfl⟩

theorem endBreak (h : TablesLegal s) : TablesLegal s.endBreak := by
  unfold State.endBreak
  exact TablesLegal.alert (h.withReceiver .hunt false) _

theorem release (h : TablesLegal s) : TablesLegal s.release := by
  unfold State.release
  exact TablesLegal.alert (((h.withReceiver .hunt s.trunk.awaitsMark).withTimer 0).withRstnLow false) _

end TablesLegal

/-! ## The rows -/

/-- Every row of the table keeps the tables legal. -/
theorem TablesLegal.exec {s t : State} (h : TablesLegal s) {i : Instr} (he : exec i s = .next t) : TablesLegal t := by
  cases i <;> cases he
  case coldReset => exact .resetCold s
  case rstnReleased =>
    split
    · exact h.release
    · exact h
  case breakDetected =>
    split
    · exact h.detectBreak
    · exact h
  case breakEnd =>
    refine h.whileRunning ?_
    split
    · exact h.endBreak
    · exact h
  case lengthError =>
    split
    · exact (h.sampleStop false).countLengthError
    · exact h
  case checkError =>
    split
    · exact (h.sampleStop false).countCheckError
    · exact h
  case gapAbort =>
    refine h.whileRunning ?_
    split
    · exact h.countGapAbort
    · exact h
  case characterComplete value framingError => exact h.whileRunning (h.receiveCharacter value framingError)
  case malformed type sequence payload => exact h.onMessage fun _ ht => ht.dispatch ⟨type, sequence, payload⟩
  case take number => exact h.onMessage fun _ ht => ht.take number
  case done value => exact h.onMessage fun _ ht => ht.done value
  case doneCurrent => exact h.onMessage fun _ ht => ht.done currentCode
  case send sequence port tag data confirm =>
    exact h.onMessage fun _ ht => ht.sequenced _ _ _ (ht.cmdSend sequence port tag data confirm)
  case commandUnknown sequence code arguments =>
    exact h.onMessage fun _ ht => ht.sequenced _ _ _ (ht.cmdAny code arguments)
  case identify sequence arguments => exact h.command .identify sequence arguments
  case getStatus sequence arguments => exact h.command .getStatus sequence arguments
  case setLink sequence arguments => exact h.command .setLink sequence arguments
  case resetArbiter sequence rest => exact h.command .reset sequence (arbiterScope :: rest)
  case resetTraffic sequence rest => exact h.command .reset sequence (trafficScope :: rest)
  case resetConfig sequence rest => exact h.command .reset sequence (configScope :: rest)
  case configureLevel sequence arguments => exact h.command .configureLevel sequence arguments
  case configureBand sequence arguments => exact h.command .configureBand sequence arguments
  case setMasksAssign sequence rest => exact h.command .setMasks sequence (assignOperation :: rest)
  case setMasksMask sequence rest => exact h.command .setMasks sequence (maskOperation :: rest)
  case setMasksUnmask sequence rest => exact h.command .setMasks sequence (unmaskOperation :: rest)
  case assertLevel sequence arguments => exact h.command .assertLevel sequence arguments
  case withdrawLevel sequence arguments => exact h.command .withdrawLevel sequence arguments
  case readLevel sequence arguments => exact h.command .readLevel sequence arguments
  case setArbiter sequence arguments => exact h.command .setArbiter sequence arguments
  case readArbiter sequence arguments => exact h.command .readArbiter sequence arguments
  case loadSelector sequence arguments => exact h.command .loadSelector sequence arguments
  case clearShadow sequence arguments => exact h.command .clearShadow sequence arguments
  case copyActive sequence arguments => exact h.command .copyActive sequence arguments
  case commitSelectors sequence arguments => exact h.command .commitSelectors sequence arguments
  case readSelector sequence arguments => exact h.command .readSelector sequence arguments
  case configureTally sequence arguments => exact h.command .configureTally sequence arguments
  case readTally sequence arguments => exact h.command .readTally sequence arguments
  case loadPattern sequence arguments => exact h.command .loadPattern sequence arguments
  case startSignal sequence arguments => exact h.command .startSignal sequence arguments
  case stopSignal sequence arguments => exact h.command .stopSignal sequence arguments
  case readSignal sequence arguments => exact h.command .readSignal sequence arguments
  case configurePort sequence arguments => exact h.command .configurePort sequence arguments
  case portControlEnable sequence port rest => exact h.command .portControl sequence (port :: enableAction :: rest)
  case portControlDisable sequence port rest => exact h.command .portControl sequence (port :: disableAction :: rest)
  case portControlProbeNow sequence port rest =>
    exact h.command .portControl sequence (port :: probeNowAction :: rest)
  case portControlFlushTx sequence port rest => exact h.command .portControl sequence (port :: flushTxAction :: rest)
  case readPort sequence arguments => exact h.command .readPort sequence arguments
  case offer => exact h.whileRunning h.makeOffer
  case takeTimerExpiry =>
    refine h.whileRunning ?_
    split
    · next hs => exact h.lapse (by simp [hs]) _
    · exact h
  case classify => exact h.whileRunning h.classify
  case phaseEnd output => exact h.whileRunning (h.phaseEnds output)
  case inboundFrameBegins port => exact h.whileRunning (h.onPort port _)
  case clockGiven port edge dataHigh => exact h.whileRunning (h.onPort port _)
  case inboundFrame port => exact h.whileRunning (h.inboundEnds port)
  case frameBroken port => exact h.whileRunning (h.inboundBreaks port)
  case probeTimerExpiry port => exact h.whileRunning (h.onPort port _)
  case probe port clkHigh dataHigh => exact h.whileRunning (h.onPort port _)
  case requestToSend port clkHigh dataHigh => exact h.whileRunning (h.onPort port _)
  case startBit port => exact h.whileRunning (h.onPort port _)
  case attemptOutcome port => exact h.whileRunning (h.attemptSlotEnds port)
  case noResponse port => exact h.whileRunning (h.attemptTimesOut port)
  case cutEnd port => exact h.whileRunning (h.onPort port _)
  case silenceExpiry port =>
    refine h.whileRunning ?_
    split
    · exact h.goSilent port
    · exact h
  case transmitBegin => exact h.whileRunning h.beginTransmission
  case transmitEnd => exact h.endTransmission
  case partTimerTick => exact h.whileRunning (h.withTimer _)
  -- RECALL, whose name Mathlib reserves as a keyword, is the row that is left.
  next value => exact h.onMessage fun _ ht => ht.recallTaken value

/-- A step runs the first command of the queue, or idles. -/
theorem TablesLegal.step {s t : State} (h : TablesLegal s) (he : step s = .next t) : TablesLegal t := by
  unfold Machine.step at he
  split at he
  · cases he; exact h
  · next rest _ => exact (h.withPending rest).exec he

/-- Settles O59: the five rules together are kept by each shared operation, hence by each row and by each step. -/
theorem tablesStayLegal : Obligations.TablesStayLegal := by
  unfold Obligations.TablesStayLegal
  intro s t ha hn hc ht hs he
  have h : TablesLegal t := TablesLegal.step ⟨ha, hn, hc, ht, hs⟩ he
  exact ⟨h.arbiter, h.notice, h.classifier, h.tallies, h.signals⟩

end Sys2Proof.Machine
end

section
/-! PROOFS. The state after a COLD reset and what each other reset leaves (O3, O18, O19, O58). -/

namespace Sys2Proof.Machine

/-! ## The part right after a COLD reset -/

/-- Settles O58: the tables by `TablesLegal.reset`, the ports by the one port that all eight are. -/
theorem invariantsHoldAtReset : Obligations.InvariantsHoldAtReset := by
  unfold Obligations.InvariantsHoldAtReset
  obtain ⟨harbiter, hnotice, hclassifier, htallies, hsignals⟩ := TablesLegal.reset
  have hports : PortsInv State.reset := forall_replicate (P := PortInv) (by decide)
  have hdeferred : DeferredInv State.reset := by
    intro p hp
    have hclear : State.reset.classifier.deferred[p] = false := forall_replicate (P := fun b => b = false) rfl p
    simp [hclear] at hp
  exact ⟨harbiter, hnotice, hclassifier, htallies, hsignals, hports, hdeferred, by decide, by decide⟩

/-- Settles O3, block by block: a table after COLD holds one item in every place. -/
theorem resetIsTheColdState : Obligations.ResetIsTheColdState := by
  unfold Obligations.ResetIsTheColdState
  have hports : ∀ p : PortIx, State.reset.ports[p] = Port.cold := forall_replicate (P := fun x => x = Port.cold) rfl
  have houtputs : ∀ o : OutputIx, State.reset.outputs[o] = Output.cold :=
    forall_replicate (P := fun x => x = Output.cold) rfl
  refine ⟨forall_replicate (P := fun x => x = _) rfl, forall_replicate (P := fun x => x = _) rfl, rfl, rfl, rfl, rfl, rfl,
    rfl, rfl, rfl, forall_replicate (P := fun x => x = _) rfl, forall_replicate (P := fun x => x = _) rfl, rfl, rfl, rfl,
    forall_replicate (P := fun x => x = _) rfl, forall_replicate (P := fun x => x = _) rfl,
    forall_replicate (P := fun x => x = _) rfl, fun o => ?_, fun p => ?_, rfl, rfl, fun _ => rfl, rfl, rfl, rfl, rfl, rfl,
    rfl, rfl, rfl, rfl, rfl, rfl, rfl, rfl⟩
  · rw [houtputs]; exact ⟨rfl, rfl⟩
  · rw [hports]; decide

/-! ## What the resets of work in flight leave -/

theorem Arbiter.resetRecords_recordsGone (a : Arbiter) : a.RecordsGone a.resetRecords := by
  refine ⟨fun l => ?_, rfl, rfl, rfl, rfl, rfl, rfl, rfl, rfl, rfl⟩
  simp [Arbiter.resetRecords]

/-- After a reset no attempt is in progress (R129). -/
theorem Line.reset_attempting (l : Line) (reasons : Reasons) : (l.reset reasons).attempting = false := by
  unfold Line.reset Line.attempting
  cases l.activity <;> rfl

/-- A TRAFFIC reset starts the silence timer in full, since no attempt and no BACKPRESSURE is left (R136). -/
theorem Port.resetTraffic_trafficGone (pt : Port) : pt.TrafficGone pt.resetTraffic := by
  unfold Port.resetTraffic
  rw [Port.startSilence_eq _ (Line.reset_attempting _ _)]
  refine ⟨rfl, rfl, rfl, ?_, rfl, rfl, Activity.reset_eq _, rfl, rfl, rfl, rfl, rfl, rfl, rfl, rfl⟩
  simp [Port.fullSilence, Line.reset]

theorem State.resetTrafficScope_effect (s : State) : TrafficEffect s s.resetTrafficScope := by
  refine ⟨s.arbiter.resetRecords_recordsGone, rfl, fun i => ?_, rfl, forall_replicate (P := fun x => x = _) rfl,
    fun p => ?_, rfl, rfl, rfl, rfl, rfl, rfl⟩
  · simp [State.resetTrafficScope, Tally.clear_eq]
  · have hp : s.resetTrafficScope.ports[p] = s.ports[p].resetTraffic := by simp [State.resetTrafficScope]
    rw [hp]
    exact Port.resetTraffic_trafficGone _

/-- The row of an admitted COMMAND whose REPLY has no pending rate (R178). -/
theorem exec_replied {s t : State} {i : Instr} {sequence : Byte} (h : s.Admits sequence) {c : Command}
    {body : State → Executed} {status : Status} {data : List Byte}
    (hrow : exec i s = .next (s.command c sequence body)) (hbody : body s.heard = ⟨t, status, data, none⟩) :
    exec i s = .next (t.replied sequence c.code status data) := by
  rw [hrow, s.command_replied h c body hbody]

/-- Settles O18: each reset row leaves what its scope's effect lemma says, under the one REPLY. -/
theorem workInFlightIsReset : Obligations.WorkInFlightIsReset := by
  unfold Obligations.WorkInFlightIsReset
  intro s sequence
  refine ⟨fun h => ⟨_, s.heard.arbiter.resetRecords_recordsGone, ?_⟩,
    fun h => ⟨_, s.heard.resetTrafficScope_effect, ?_⟩, fun h => ⟨_, s.resetTrafficScope_effect, ?_⟩, fun h => ?_⟩
  · exact exec_replied h (c := .reset) (body := cmdReset [arbiterScope]) rfl rfl
  · exact exec_replied h (c := .reset) (body := cmdReset [trafficScope]) rfl rfl
  · show Host.Outcome.next (if s.receives then s.detectBreak else s) = _
    rw [if_pos (s.receives_iff.2 h)]
    rfl
  · show Host.Outcome.next (if s.receives then s.detectBreak else s) = _
    rw [if_neg (by simp [State.receives, h])]

/-! ## What a CONFIG reset leaves -/

/-- A port after CONFIG is one after COLD with its line ending what it was doing (R129). -/
theorem Port.resetConfig_eq (pt : Port) :
    pt.resetConfig = { Port.cold with line := ⟨pt.line.activity.dropped, ⟨false, false, false, false⟩, none⟩ } := by
  rw [← Activity.reset_eq]
  rfl

/-- A cut, new or old, leaves the line in the close of the cut, with CLK low (R123, R129). -/
theorem Activity.dropped_closing {l : Line} (h : l.attempting = true ∨ l.activity = .closing) :
    l.activity.dropped = .closing := by
  unfold Line.attempting at h
  cases ha : l.activity <;> simp_all [Activity.dropped]

/-- Settles O19: the lines by what a reset leaves of what they were doing, the rest by the COLD values. -/
theorem configurationIsReset : Obligations.ConfigurationIsReset := by
  unfold Obligations.ConfigurationIsReset
  intro s sequence h
  have hports : ∀ p : PortIx, (mapAll Port.resetConfig s.ports)[p] =
      { Port.cold with line := ⟨s.ports[p].line.activity.dropped, ⟨false, false, false, false⟩, none⟩ } := by
    intro p
    rw [← Port.resetConfig_eq]
    exact mapAll_getElem _ _ _ _
  have hcold : ∀ p : PortIx, State.reset.ports[p] = Port.cold := forall_replicate (P := fun x => x = Port.cold) rfl
  refine ⟨mapAll Port.resetConfig s.ports, fun p => ?_, fun p hp => ?_, fun p hp => ?_, ?_⟩
  · rw [hports, hcold]
  · rw [hports, Activity.dropped_closing hp]
    exact ⟨rfl, rfl⟩
  · rw [hports, hp]
    rfl
  · rw [exec_replied h (c := .reset) (body := cmdReset [configScope]) rfl rfl]
    simp only [State.resetConfigScope, Arbiter.resetConfig, State.heard_number]
    rfl

end Sys2Proof.Machine
end

section
/-! PROOFS. Rank, eligibility, the current level and the offer (O26, O27, O28). -/

namespace Sys2Proof.Machine

/-! ## Rank (R9, R10, R12) -/

/-- The rank in numbers, for a level of the band `b`. -/
theorem Arbiter.rank_of_band (a : Arbiter) {l : LevelIx} {b : BandIx} (h : bandOf l = b) :
    a.rank l = 4 * b.val + (l.val % 4 + 3 - a.bands[b].pointer.val) % 4 := by
  subst h
  rfl

theorem bandOf_val (l : LevelIx) : (bandOf l).val = l.val / 4 := rfl

theorem bandOf_eq_iff (x y : LevelIx) : bandOf x = bandOf y ↔ x.val / 4 = y.val / 4 := Fin.ext_iff

theorem Arbiter.rank_lt (a : Arbiter) (l : LevelIx) : a.rank l < 16 := by
  rw [a.rank_of_band rfl]; omega

/-- The band of a level is its rank's (R9). -/
theorem Arbiter.rank_div (a : Arbiter) (l : LevelIx) : a.rank l / 4 = l.val / 4 := by
  have hb := bandOf_val l
  rw [a.rank_of_band rfl]; omega

theorem Arbiter.rank_injective (a : Arbiter) {x y : LevelIx} (h : a.rank x = a.rank y) : x = y := by
  have hband : x.val / 4 = y.val / 4 := by rw [← a.rank_div x, ← a.rank_div y, h]
  have hp := (a.bands[bandOf y].pointer).isLt
  rw [a.rank_of_band ((bandOf_eq_iff x y).2 hband), a.rank_of_band (l := y) rfl] at h
  exact Fin.ext (by omega)

/-- The place of a rank: in band `b`, the member `k + 1` after the pointer. -/
theorem Arbiter.rankOrder_place (a : Arbiter) (b : BandIx) (k : Fin 4) :
    a.rankOrder[4 * b.val + k.val]? = some (levelOf b (a.bands[b].pointer + 1 + k)) := by
  fin_cases b <;> fin_cases k <;> rfl

theorem Arbiter.rankOrder_length (a : Arbiter) : a.rankOrder.length = 16 := rfl

theorem Arbiter.rank_levelOf (a : Arbiter) (b : BandIx) (k : Fin 4) :
    a.rank (levelOf b (a.bands[b].pointer + 1 + k)) = 4 * b.val + k.val := by
  have hband : bandOf (levelOf b (a.bands[b].pointer + 1 + k)) = b := Fin.ext (by simp only [bandOf, levelOf]; omega)
  have hp := (a.bands[b].pointer).isLt
  rw [a.rank_of_band hband]
  simp only [levelOf, Fin.val_add]
  omega

/-- Each level stands in the rank order at its rank. -/
theorem Arbiter.rankOrder_rank (a : Arbiter) (l : LevelIx) : a.rankOrder[a.rank l]? = some l := by
  have hr := a.rank_lt l
  have hplace := a.rankOrder_place ⟨a.rank l / 4, by omega⟩ ⟨a.rank l % 4, by omega⟩
  have hrank := a.rank_levelOf ⟨a.rank l / 4, by omega⟩ ⟨a.rank l % 4, by omega⟩
  simp only [Nat.div_add_mod] at hplace hrank
  rw [hplace, a.rank_injective hrank]

/-- The rank order lists the levels by rank. -/
theorem Arbiter.rankOrder_getElem?_iff (a : Arbiter) (i : Nat) (l : LevelIx) :
    a.rankOrder[i]? = some l ↔ a.rank l = i := by
  constructor
  · intro h
    have hi : i < 16 := a.rankOrder_length ▸ (List.getElem?_eq_some_iff.1 h).1
    have hplace := a.rankOrder_place ⟨i / 4, by omega⟩ ⟨i % 4, by omega⟩
    have hrank := a.rank_levelOf ⟨i / 4, by omega⟩ ⟨i % 4, by omega⟩
    simp only [Nat.div_add_mod] at hplace hrank
    cases h.symm.trans hplace
    exact hrank
  · rintro rfl
    exact a.rankOrder_rank l

/-- Completing a level leaves it the lowest of a rotating band (R12). -/
theorem Arbiter.complete_rank_lowest (a : Arbiter) {l x : LevelIx} (hr : a.bands[bandOf l].rotation = true)
    (hx : x.val / 4 = l.val / 4) : (a.complete l).rank x ≤ (a.complete l).rank l := by
  have hbands : (a.complete l).bands = update a.bands (bandOf l) fun b => { b with pointer := memberOf l } := if_pos hr
  have hpointer : (a.complete l).bands[bandOf l].pointer = memberOf l := by simp [hbands]
  rw [Arbiter.rank_of_band _ ((bandOf_eq_iff x l).2 hx), Arbiter.rank_of_band _ (l := l) rfl, hpointer]
  simp only [memberOf]
  omega

/-- Settles O26: the rank is `4 * band + place`, and the rank order lists the levels at their ranks. -/
theorem rankIsOneOrder : Obligations.RankIsOneOrder := by
  unfold Obligations.RankIsOneOrder
  intro a
  refine ⟨fun l => ⟨a.rank_lt l, a.rank_div l⟩, fun _ _ h => a.rank_injective h, fun l hl => ?_, fun x y hxy hx hy => ?_,
    a.rankOrder_rank, fun _ _ hr hx => a.complete_rank_lowest hr hx⟩
  · have hp := (a.bands[bandOf l].pointer).isLt
    rw [a.rank_of_band rfl]
    omega
  · have hp := (a.bands[bandOf x].pointer).isLt
    rw [a.rank_of_band ((bandOf_eq_iff y x).2 hxy.symm), a.rank_of_band (l := x) rfl]
    omega

/-! ## Eligibility and the current level (R15 to R19) -/

theorem Arbiter.modeAllows_iff (a : Arbiter) (l : LevelIx) :
    a.modeAllows l = true ↔
      (a.mode = .nested → ∀ e ∈ a.stack, a.rank l < a.rank e.level) ∧
      (a.mode = .selective → ∀ e ∈ a.stack, a.levels[e.level].masked = false → a.rank l < a.rank e.level) ∧
      (a.mode = .single → a.stack = []) := by
  unfold Arbiter.modeAllows
  cases a.mode with
  | nested => simp [Arbiter.outranks]
  | selective => simp [Arbiter.outranks, or_iff_not_imp_left]
  | single => simp

theorem Arbiter.eligible_iff (a : Arbiter) (l : LevelIx) :
    a.eligible l = true ↔
      (∃ r, a.levels[l].pending = some r) ∧ a.levels[l].masked = false ∧ a.modeAllows l = true := by
  simp only [Arbiter.eligible, Bool.and_eq_true, Bool.not_eq_true', Option.isSome_iff_exists, and_assoc]

/-- The highest-ranked eligible level is the eligible one with the smallest rank index (R16). -/
theorem Arbiter.highest_iff (a : Arbiter) (l : LevelIx) :
    a.highest = some l ↔ a.eligible l = true ∧ ∀ x, a.eligible x = true → a.rank l ≤ a.rank x := by
  unfold Arbiter.highest
  rw [List.find?_eq_some_iff_getElem]
  refine and_congr_right fun _ => ⟨?_, fun hmin => ?_⟩
  · rintro ⟨i, hi, hl, hbefore⟩ x hx
    have hrank := (a.rankOrder_getElem?_iff i l).1 (List.getElem?_eq_some_iff.2 ⟨hi, hl⟩)
    by_contra hlt
    have hx' := (List.getElem?_eq_some_iff.1 (a.rankOrder_rank x)).2
    have hnot := hbefore (a.rank x) (by omega)
    rw [hx', hx] at hnot
    cases hnot
  · obtain ⟨hlen, hl⟩ := List.getElem?_eq_some_iff.1 (a.rankOrder_rank l)
    refine ⟨a.rank l, hlen, hl, fun j hj => ?_⟩
    have hrank := (a.rankOrder_getElem?_iff j _).1 (List.getElem?_eq_getElem (hj.trans hlen))
    by_contra hel
    have hle := hmin _ (by simpa using hel)
    omega

theorem Arbiter.highest_none_iff (a : Arbiter) : a.highest = none ↔ ∀ x, a.eligible x = false := by
  have hall (x : LevelIx) : x ∈ a.rankOrder := List.mem_of_getElem? (a.rankOrder_rank x)
  simp [Arbiter.highest, hall]

theorem Arbiter.current_of_not_selective {a : Arbiter} (h : a.mode ≠ .selective) :
    a.current = (a.stack.map InService.level).head? := by
  unfold Arbiter.current
  split
  · contradiction
  · rw [List.head?_map]

theorem Arbiter.current_of_selective {a : Arbiter} (h : a.mode = .selective) :
    a.current = ((a.stack.map InService.level).filter fun x => !a.levels[x].masked).head? := by
  unfold Arbiter.current
  rw [h, List.head?_filter, List.find?_map]
  rfl

/-- Settles O27: no level outranks itself, and the rank order is searched from the lowest rank index on. -/
theorem eligibilityFollowsTheMode : Obligations.EligibilityFollowsTheMode := by
  unfold Obligations.EligibilityFollowsTheMode
  intro a l
  refine ⟨?_, fun e he => ?_, a.highest_iff l, a.highest_none_iff, Arbiter.current_of_not_selective,
    Arbiter.current_of_selective⟩
  · rw [a.eligible_iff, a.modeAllows_iff]
  · by_contra hel
    exact Arbiter.eligible_not_in_stack (by simpa using hel) e he rfl

/-! ## The offer (R27, R28) -/

theorem Arbiter.candidate_eq_some {a : Arbiter} {l : LevelIx} {r : Record} (hi : a.state = .idle)
    (hl : a.highest = some l) (hr : a.levels[l].pending = some r) : a.candidate = some (l, r) := by
  rw [Fin.getElem_fin] at hr
  simp [Arbiter.candidate, hi, hl, hr]

theorem Arbiter.candidate_eq_none {a : Arbiter} (h : a.state ≠ .idle ∨ a.highest = none) : a.candidate = none := by
  unfold Arbiter.candidate
  split
  · next hi => simp [h.resolve_left (not_not_intro hi)]
  · rfl

theorem State.makeOffer_none {s : State} (h : s.arbiter.state ≠ .idle ∨ ¬ s.HasRoom ∨ s.arbiter.highest = none) :
    s.makeOffer = s := by
  unfold State.makeOffer
  split
  · next hr =>
    have hc : s.arbiter.candidate = none :=
      Arbiter.candidate_eq_none (h.imp_right fun h => h.resolve_left (not_not_intro ((Trunk.room_iff _).1 hr)))
    rw [hc]
  · rfl

/-- Settles O28: an offer is made exactly where there is a candidate and room. -/
theorem offersAreMade : Obligations.OffersAreMade := by
  unfold Obligations.OffersAreMade
  intro s
  refine ⟨fun l r hlow hi hroom hl hr => ?_, fun h => ?_⟩
  · show Host.Outcome.next (s.whileRunning State.makeOffer) = _
    rw [s.whileRunning_run _ hlow]
    simp only [State.makeOffer, (Trunk.room_iff _).2 hroom, Arbiter.candidate_eq_some hi hl hr]
    rfl
  · show Host.Outcome.next (s.whileRunning State.makeOffer) = _
    unfold State.whileRunning
    rw [State.makeOffer_none h, ite_self]

end Sys2Proof.Machine
end

section
/-! PROOFS. The commands on levels, bands and the arbiter: settings, masks, assertions and reports (O22 to O25). -/

namespace Sys2Proof.Machine

/-! ## Operands -/

@[simp] theorem index?_level (l : LevelIx) : index? 16 (indexByte l) = some l := index?_indexByte (by decide) l

@[simp] theorem index?_band (b : BandIx) : index? 4 (indexByte b) = some b := index?_indexByte (by decide) b

/-- A 16-bit value reads back from its two bytes (R194). -/
@[simp] theorem wordOf_bytes (w : Word) : wordOf (hiByte w) (loByte w) = w := by
  unfold wordOf hiByte loByte
  rw [BitVec.extractLsb'_append_extractLsb'_eq_extractLsb' (by decide)]
  simp

theorem levelSet_getLsbD (f : LevelIx → Bool) (l : LevelIx) : (levelSet f).getLsbD l = f l := by
  simp [levelSet]

/-! ## Settings (R20, R21, R48) -/

/-- Settles O22: each operand reads back from its byte, and the command writes it. -/
theorem arbiterSettingsAreWritten : Obligations.ArbiterSettingsAreWritten := by
  unfold Obligations.ArbiterSettingsAreWritten
  intro s sequence h
  refine ⟨fun l masked autoDone => ?_, fun b rotation pointer => ?_, fun mode take lapse ht ht' hp hp' => ?_⟩
  · rw [← s.heard_levels]
    refine exec_replied h (c := .configureLevel) rfl ?_
    simp only [cmdConfigureLevel, index?_level, setting?_settingByte, inRange]
    rfl
  · rw [← s.heard_bands]
    refine exec_replied h (c := .configureBand) rfl ?_
    simp only [cmdConfigureBand, index?_band, setting?_settingByte, inRange]
    rfl
  · refine exec_replied h (c := .setArbiter) rfl ?_
    simp only [cmdSetArbiter, mode?_code, inRange, wordOf_bytes, limitsOk, ht, ht', hp, hp', decide_true,
      Bool.and_self, if_true]
    rfl

/-! ## Masks (R22) -/

/-- A SET_MASKS whose operation gives the masks by `f` (R22). -/
theorem cmdSetMasks_ok {operation : Byte} {set : Word} {f : LevelIx → Bool → Bool}
    (hf : maskOperation? operation set = some f) (s : State) :
    cmdSetMasks [operation, hiByte set, loByte set] s =
      ⟨s.mapMasks f, .ok, word (s.mapMasks f).arbiter.maskSet, none⟩ := by
  simp only [cmdSetMasks, wordOf_bytes, hf, inRange]
  rfl

theorem maskOperation?_none {operation : Byte} (h1 : operation ≠ 1) (h2 : operation ≠ 2) (h3 : operation ≠ 3)
    (set : Word) : maskOperation? operation set = none := by
  unfold maskOperation?
  rw [if_neg (show operation ≠ assignOperation from h1), if_neg (show operation ≠ maskOperation from h2),
    if_neg (show operation ≠ unmaskOperation from h3)]

theorem cmdAny_code (c : Command) (arguments : List Byte) (s : State) :
    cmdAny c.code arguments s = runCommand c arguments s := by
  simp only [cmdAny, commandOf_code]

/-- Settles O23: the three rows are one command with three mask functions; another operation has none. -/
theorem masksAreSet : Obligations.MasksAreSet := by
  unfold Obligations.MasksAreSet
  intro s sequence set h
  refine ⟨fun i masked hi => ?_, fun operation h1 h2 h3 => ?_⟩
  · obtain ⟨operation, f, hf, hrow, hmasked⟩ : ∃ operation f, maskOperation? operation set = some f ∧
        exec i s = .next (s.command .setMasks sequence (cmdSetMasks [operation, hiByte set, loByte set])) ∧
        ∀ l, masked l = f l s.arbiter.levels[l].masked := by
      rcases hi with ⟨rfl, rfl⟩ | ⟨rfl, rfl⟩ | ⟨rfl, rfl⟩
      · exact ⟨assignOperation, _, rfl, rfl, fun _ => rfl⟩
      · exact ⟨maskOperation, _, rfl, rfl, fun _ => rfl⟩
      · exact ⟨unmaskOperation, _, rfl, rfl, fun _ => rfl⟩
    refine ⟨(s.heard.mapMasks f).arbiter.levels, (s.heard.mapMasks f).arbiter.maskSet, fun l => ?_,
      exec_replied h hrow (cmdSetMasks_ok hf s.heard)⟩
    have hl : (s.heard.mapMasks f).arbiter.levels[l] = { s.arbiter.levels[l] with masked := masked l } := by
      simp [State.mapMasks, hmasked]
    exact ⟨hl, by rw [Arbiter.maskSet, levelSet_getLsbD, hl]⟩
  · refine exec_replied h (c := .setMasks) (body := cmdAny 0x12 [operation, hiByte set, loByte set]) rfl ?_
    rw [show (0x12 : Byte) = Command.setMasks.code from rfl, cmdAny_code, runCommand, cmdSetMasks,
      wordOf_bytes, maskOperation?_none h1 h2 h3]
    rfl

/-! ## Assertions and withdrawals (R4, R6, R23) -/

/-- An assertion to a level without a pending record creates one (R4). -/
theorem State.assertLevel_creates {s : State} {l : LevelIx} (hp : s.arbiter.levels[l].pending = none) (source : Source)
    (data : Byte) (time : Word) :
    s.assertLevel l source data time = s.onLevel l fun x => { x with pending := some (.first source data time) } := by
  rw [State.assertLevel, State.onLevel, State.onLevel, update_congr]
  rw [hp]

/-- An assertion to a level with a pending record joins it (R4). -/
theorem State.assertLevel_joins {s : State} {l : LevelIx} {r : Record} (hp : s.arbiter.levels[l].pending = some r)
    (source : Source) (data : Byte) (time : Word) :
    s.assertLevel l source data time = s.onLevel l fun x => { x with pending := some (r.join source data time) } := by
  rw [State.assertLevel, State.onLevel, State.onLevel, update_congr]
  rw [hp]

/-- A level that a table holds after a change of it. -/
theorem State.onLevel_same (s : State) (l : LevelIx) (f : Level → Level) :
    (s.onLevel l f).arbiter.levels[l] = f s.arbiter.levels[l] := update_getElem_self _ _ _

/-- ASSERT_LEVEL answers the count of the record that it leaves (R23). -/
theorem cmdAssertLevel_ok {s : State} {l : LevelIx} {value : Byte} {r : Record}
    (hs : s.assertLevel l .host value s.timer = s.onLevel l fun x => { x with pending := some r }) :
    cmdAssertLevel [indexByte l, value] s =
      ⟨s.onLevel l fun x => { x with pending := some r }, .ok, [r.count], none⟩ := by
  simp only [cmdAssertLevel, index?_level, inRange, hs, State.onLevel_same]
  rfl

theorem satInc_byte (c : Byte) : satInc c = if c = 255 then 255 else c + 1 := by
  unfold satInc
  have hmax : BitVec.allOnes 8 = 255 := by decide
  rw [hmax]
  by_cases h : c = 255
  · rw [if_pos h, if_pos h, h]
  · rw [if_neg h, if_neg h]

/-- HOST is one source, without an index (Table 1-3). -/
theorem Source.sameSource_host (x : Source) : (!x.sameSource .host) = (x != .host) := by
  cases x <;> rfl

/-- The record once the host has asserted its level again (R4). -/
theorem Record.join_host (r : Record) (data : Byte) (time : Word) :
    r.join .host data time =
      ⟨r.source, r.firstData, data, r.firstTime, time, if r.count = 255 then 255 else r.count + 1,
        r.mixed || r.source != .host⟩ := by
  rw [Record.join, satInc_byte, Source.sameSource_host]

/-- Settles O24, by whether the level has a pending record. -/
theorem hostAssertsAndWithdraws : Obligations.HostAssertsAndWithdraws := by
  unfold Obligations.HostAssertsAndWithdraws
  intro s sequence l h
  rw [← s.heard_levels]
  refine ⟨fun value => ⟨fun hp => ?_, fun r hp => ?_⟩, ?_⟩
  · exact exec_replied h (c := .assertLevel) rfl (cmdAssertLevel_ok (State.assertLevel_creates hp _ _ _))
  · have hs := State.assertLevel_joins hp .host value s.timer
    simp only [Record.join_host] at hs
    exact exec_replied h (c := .assertLevel) rfl (cmdAssertLevel_ok hs)
  · refine exec_replied h (c := .withdrawLevel) (body := cmdWithdrawLevel [indexByte l]) rfl ?_
    simp only [cmdWithdrawLevel, index?_level, inRange]
    rfl

/-! ## Reports (R23, R49) -/

/-- Bit `i` of the flags byte that has bit `n` only. -/
theorem flag_getLsbD {n : Nat} (hn : n < 8) (b : Bool) (i : Nat) : (flag n b).getLsbD i = (b && decide (n = i)) := by
  unfold flag
  cases b
  · simp
  · by_cases h : n = i
    · subst h; simp [hn]
    · simp [BitVec.getLsbD_twoPow, h]

theorem indexOrAbsent_eq {n : Nat} (i : Option (Fin n)) : indexOrAbsent i = optionalByte i := by
  cases i <;> rfl

theorem Arbiter.inService_isSome (a : Arbiter) (l : LevelIx) : (a.inService l).isSome = a.inStack l := by
  rw [Bool.eq_iff_iff]
  simp [Arbiter.inService, Arbiter.inStack]

/-- A message that is heard changes nothing of the arbiter but its state and its lapse count (R41). -/
theorem State.heard_arbiter_cases (s : State) :
    s.heard.arbiter = s.arbiter ∨
    (s.arbiter.state = .quiescent ∧ s.heard.arbiter = { s.arbiter with state := .idle, consecutiveLapses := 0 }) := by
  by_cases hq : s.arbiter.state = .quiescent
  · exact .inr ⟨hq, if_pos hq⟩
  · exact .inl (if_neg hq)

theorem State.heard_levelReport (s : State) (l : LevelIx) :
    s.heard.arbiter.levelReport l = s.arbiter.levelReport l := by
  rcases s.heard_arbiter_cases with h | ⟨-, h⟩
  · rw [h]
  · rw [h]; rfl

theorem State.heard_offered (s : State) : s.heard.arbiter.state.offered = s.arbiter.state.offered := by
  rcases s.heard_arbiter_cases with h | ⟨hq, h⟩
  · rw [h]
  · rw [h, hq]; rfl

theorem State.heard_highest (s : State) : s.heard.arbiter.highest = s.arbiter.highest := by
  rcases s.heard_arbiter_cases with h | ⟨-, h⟩
  · rw [h]
  · rw [h]; rfl

theorem State.heard_pendingSet (s : State) : s.heard.arbiter.pendingSet = s.arbiter.pendingSet := by
  rw [Arbiter.pendingSet, s.heard_levels]
  rfl

theorem State.heard_maskSet (s : State) : s.heard.arbiter.maskSet = s.arbiter.maskSet := by
  rw [Arbiter.maskSet, s.heard_levels]
  rfl

/-- The flags byte of READ_LEVEL (Table 10-6). -/
def Arbiter.levelFlags (a : Arbiter) (l : LevelIx) : Byte :=
  flag 0 a.levels[l].masked ||| flag 1 a.levels[l].autoDone ||| flag 2 (a.eligible l) |||
    flag 3 (a.current == some l) ||| flag 4 a.levels[l].pending.isSome ||| flag 5 (a.inService l).isSome

theorem Arbiter.levelReport_flags (a : Arbiter) (l : LevelIx) :
    (a.levelReport l).head? = some (a.levelFlags l) := rfl

/-- Bit by bit what READ_LEVEL's flags byte says. -/
theorem Arbiter.levelFlags_getLsbD (a : Arbiter) (l : LevelIx) (i : Nat) :
    (a.levelFlags l).getLsbD i =
      ((a.levels[l].masked && decide (0 = i)) || (a.levels[l].autoDone && decide (1 = i)) ||
        (a.eligible l && decide (2 = i)) || ((a.current == some l) && decide (3 = i)) ||
        (a.levels[l].pending.isSome && decide (4 = i)) || (a.inStack l && decide (5 = i))) := by
  simp only [Arbiter.levelFlags, BitVec.getLsbD_or, Arbiter.inService_isSome]
  rw [flag_getLsbD (by decide), flag_getLsbD (by decide), flag_getLsbD (by decide), flag_getLsbD (by decide),
    flag_getLsbD (by decide), flag_getLsbD (by decide)]

/-- Settles O25: hearing the request leaves every reported item but the state and the lapse count as it was. -/
theorem arbiterIsReported : Obligations.ArbiterIsReported := by
  unfold Obligations.ArbiterIsReported
  intro s sequence h
  refine ⟨fun l => ⟨s.arbiter.levelFlags l, ?_⟩, s.arbiter.pendingSet, s.arbiter.maskSet, fun l => ?_, ?_⟩
  · have hrow : exec (.readLevel sequence [indexByte l]) s = .next (s.heard.replied sequence 0x15 .ok
        (s.arbiter.levelReport l)) := by
      refine exec_replied h (c := .readLevel) (body := cmdReadLevel [indexByte l]) rfl ?_
      simp only [cmdReadLevel, index?_level, inRange, State.heard_levelReport]
      rfl
    simp only [Arbiter.levelFlags_getLsbD]
    refine ⟨by simp, by simp, by simp, by simp [beq_eq_decide], by simp, by simp, by simp, by simp, hrow⟩
  · exact ⟨levelSet_getLsbD _ l, levelSet_getLsbD _ l⟩
  · refine exec_replied h (c := .readArbiter) (body := cmdReadArbiter []) rfl ?_
    simp only [cmdReadArbiter, Arbiter.report, s.heard_mode, s.heard_takeLimit, s.heard_lapseLimit, s.heard_number,
      s.heard_offered, s.heard_pendingSet, s.heard_maskSet, s.heard_stack, s.heard_bands, s.heard_totalLapses,
      s.heard_highest, indexOrAbsent_eq, Arbiter.stackBytes]
    rfl

end Sys2Proof.Machine
end

section
/-! PROOFS. Messages heard and malformed messages; TAKE, DONE, RECALL and the lapse of an offer (O10, O11, O29 to
O33). -/

namespace Sys2Proof.Machine

/-! ## Messages (R41, R163, R164) -/

/-- Every row that stands for a message is handed over as one. -/
theorem exec_message {i : Instr} {spare : Byte} {m : TrunkMessage} (h : encodeMessage spare i = some m) :
    ∃ owner, ∀ s, exec i s = .next (s.onMessage owner) := by
  cases i <;> simp only [encodeMessage, Option.some.injEq, reduceCtorEq] at h <;> exact ⟨_, fun _ => rfl⟩

/-- The part still takes messages once it has heard one. -/
theorem State.heard_hears {s : State} (h : s.Hears) : s.heard.Hears := ⟨h.1, by simp⟩

/-- Settles O11: the owner acts on the heard state, and hearing a second time changes nothing. -/
theorem messagesReleaseTheArbiterFirst : Obligations.MessagesReleaseTheArbiterFirst := by
  unfold Obligations.MessagesReleaseTheArbiterFirst
  intro s i spare m h
  obtain ⟨owner, hexec⟩ := exec_message h
  refine ⟨fun hs => ?_, fun hs => ?_⟩
  · rw [hexec, hexec, s.onMessage_heard hs, s.heard.onMessage_heard (State.heard_hears hs), s.heard_heard]
  · rw [hexec, s.onMessage_deaf hs]

/-- No owner is given a message that fails the form check (R164). -/
theorem State.dispatch_malformed (s : State) {m : TrunkMessage} (h : formOk m.type m.payload.length = false) :
    s.dispatch m = s.alertMalformed m := by
  obtain ⟨type, sequence, payload⟩ := m
  simp only [formOk, Bool.or_eq_false_iff, Bool.and_eq_false_iff, beq_eq_false_iff_ne, decide_eq_false_iff_not] at h
  obtain ⟨hsized, hcommand⟩ := h
  simp only [State.dispatch]
  split_ifs with htake hdone hrecall hsend hform
  iterate 4
    · split
      · simp_all
      · rfl
  · obtain ⟨rfl, hfits⟩ := hform
    cases payload with
    | nil => rfl
    | cons code arguments =>
      simp only [List.length_cons, ne_eq, not_true_eq_false, false_or] at hcommand hfits
      omega
  · rfl

/-- Settles O10: the form check of the claim is the model's, Type by Type. -/
theorem malformedDrawsItsAlert : Obligations.MalformedDrawsItsAlert := by
  unfold Obligations.MalformedDrawsItsAlert
  intro s type sequence payload hs hlength hone hsend hcommand
  have hform : formOk type payload.length = false := by
    by_contra hok
    simp only [Bool.not_eq_false, formOk, Bool.or_eq_true, Bool.and_eq_true, beq_iff_eq, decide_eq_true_eq] at hok
    rcases hok with (((⟨rfl, hl⟩ | ⟨rfl, hl⟩) | ⟨rfl, hl⟩) | ⟨rfl, hl⟩) | ⟨⟨rfl, hl⟩, -⟩
    · exact hone ⟨by decide, hl⟩
    · exact hone ⟨by decide, hl⟩
    · exact hone ⟨by decide, hl⟩
    · exact hsend ⟨by decide, hl⟩
    · exact hcommand ⟨by decide, hl⟩
  show Host.Outcome.next (s.onMessage fun t => t.dispatch ⟨type, sequence, payload⟩) = _
  rw [s.onMessage_heard hs, s.heard.dispatch_malformed hform, State.alertMalformed, State.alert_eq]
  rfl

/-! ## TAKE (R32 to R36) -/

/-- A TAKE finds its offer exactly where one is outstanding and has its number (R33). -/
theorem Arbiter.offerNumbered_eq_some_iff (a : Arbiter) (number : Byte) (l : LevelIx) :
    a.offerNumbered number = some l ↔ a.number = number ∧ a.state.offered = some l := by
  simp [Arbiter.offerNumbered]

theorem Arbiter.offerNumbered_eq_none {a : Arbiter} {number : Byte}
    (h : number ≠ a.number ∨ a.state.offered = none) : a.offerNumbered number = none := by
  unfold Arbiter.offerNumbered
  split
  · next hn => exact h.resolve_left (not_not_intro hn.symm)
  · rfl

/-- A message leaves an outstanding offer as it is (R41). -/
theorem State.heard_arbiter_of_offered {s : State} {l : LevelIx} (h : s.arbiter.state.offered = some l) :
    s.heard.arbiter = s.arbiter := by
  refine s.heard_arbiter_cases.resolve_right ?_
  rintro ⟨hq, -⟩
  rw [hq] at h
  cases h

/-- A TAKE acts on the state that has heard it. -/
theorem exec_take {s : State} (h : s.Hears) (number : Byte) : exec (.take number) s = .next (s.heard.take number) :=
  congrArg Host.Outcome.next (s.onMessage_heard h _)

theorem State.take_eligible {s : State} {l : LevelIx} {r : Record} (hroom : s.HasRoom)
    (ho : s.arbiter.state.offered = some l) (he : s.arbiter.eligible l = true)
    (hr : s.arbiter.levels[l].pending = some r) : s.take s.arbiter.number = s.taken l r := by
  simp only [State.take, (Trunk.room_iff _).2 hroom, if_true, (s.arbiter.offerNumbered_eq_some_iff _ l).2 ⟨rfl, ho⟩, hr,
    he]

theorem State.take_ineligible {s : State} {l : LevelIx} (hroom : s.HasRoom) (ho : s.arbiter.state.offered = some l)
    (he : s.arbiter.eligible l = false) :
    s.take s.arbiter.number =
      (s.queued (.detail (.void s.arbiter.number l))).withArbiter s.arbiter.endOffer := by
  simp only [State.take, (Trunk.room_iff _).2 hroom, if_true, (s.arbiter.offerNumbered_eq_some_iff _ l).2 ⟨rfl, ho⟩, he]
  split
  · next hfalse => cases hfalse
  · rfl

theorem State.take_stale {s : State} {number : Byte} (hroom : s.HasRoom)
    (h : number ≠ s.arbiter.number ∨ s.arbiter.state.offered = none) :
    s.take number = s.queued (.detail (.stale number)) := by
  simp only [State.take, (Trunk.room_iff _).2 hroom, if_true, Arbiter.offerNumbered_eq_none h]
  rfl

theorem State.take_no_room {s : State} (number : Byte) (h : ¬ s.HasRoom) : s.take number = s.overran := by
  simp only [State.take, (Trunk.room_false_iff _).2 h, Bool.false_eq_true, if_false]
  rfl

/-- A level that leaves service in the step that took it in leaves the rest of the stack, and its band rotates (R35). -/
theorem Arbiter.complete_push {a : Arbiter} {l : LevelIx} (r : Record) (h : a.eligible l = true) :
    (a.push l r).complete l = { a.push l r with stack := a.stack, bands := a.rotated l } := by
  have hrest : a.stack.filter (fun e => e.level != l) = a.stack :=
    List.filter_eq_self.2 fun e he => by simpa using Arbiter.eligible_not_in_stack h e he
  rw [Arbiter.complete_eq]
  simp only [Arbiter.push, List.filter_cons, bne_self_eq_false, Bool.false_eq_true, if_false, hrest]
  rfl

/-- What a TAKE that finds its offer eligible does, with auto-done and without (R33, R35). -/
theorem State.taken_eq {s : State} {l : LevelIx} (r : Record) (h : s.arbiter.eligible l = true) :
    s.taken l r =
      { s with arbiter := { s.arbiter with
          levels := update s.arbiter.levels l fun x => { x with pending := none }
          stack := if s.arbiter.levels[l].autoDone = true then s.arbiter.stack else ⟨l, r⟩ :: s.arbiter.stack
          bands := if s.arbiter.levels[l].autoDone = true then s.arbiter.rotated l else s.arbiter.bands
          state := .idle
          consecutiveLapses := 0 } }.queued (.detail (.taken s.arbiter.number l r)) := by
  unfold State.taken
  by_cases hauto : s.arbiter.levels[l].autoDone = true
  · simp only [hauto, if_true, State.queueControl_arbiter, State.withArbiter_arbiter, Arbiter.complete_push r h]
    rfl
  · simp only [hauto]
    rfl

/-- Settles O29: an outstanding offer is not in QUIESCENT, so that hearing the TAKE leaves the arbiter as it is. -/
theorem takenLevelsGoIntoService : Obligations.TakenLevelsGoIntoService := by
  unfold Obligations.TakenLevelsGoIntoService
  intro s l r hs hroom ho he hr
  have ha : s.heard.arbiter = s.arbiter := State.heard_arbiter_of_offered ho
  have htake := State.take_eligible (s := s.heard) (l := l) (r := r) hroom
  rw [ha] at htake
  rw [exec_take hs, htake ho he hr, State.taken_eq r (by rw [ha]; exact he), ha]

/-- Settles O30, by the three outcomes of a TAKE that takes no level. -/
theorem otherTakesAreVoidStaleOrIgnored : Obligations.OtherTakesAreVoidStaleOrIgnored := by
  unfold Obligations.OtherTakesAreVoidStaleOrIgnored
  intro s number hs
  refine ⟨fun l hroom ho he hn => ?_, fun hroom h => ?_, fun hroom => ?_⟩
  · subst hn
    have ha : s.heard.arbiter = s.arbiter := State.heard_arbiter_of_offered ho
    have htake := State.take_ineligible (s := s.heard) (l := l) hroom
    rw [ha] at htake
    rw [exec_take hs, htake ho he]
    rfl
  · rw [exec_take hs, State.take_stale (s.heard_hasRoom hroom) (by rwa [s.heard_number, s.heard_offered])]
  · rw [exec_take hs, State.take_no_room (s := s.heard) number hroom]

/-! ## DONE (R12, R13, R19, R43, R44, R46) -/

theorem indexByte_toNat (l : LevelIx) : (indexByte l).toNat = l.val := by
  simp only [indexByte, BitVec.toNat_ofNat]
  omega

theorem indexByte_ne_current (l : LevelIx) : indexByte l ≠ currentCode := by revert l; decide

/-- A DONE value names a level exactly where it is the value of a level in the stack (R43, R46). -/
theorem Arbiter.named_eq_some {a : Arbiter} {e : InService} (h : e ∈ a.stack) :
    a.named (indexByte e.level) = some e.level := by
  have hl : (⟨(indexByte e.level).toNat, by rw [indexByte_toNat]; exact e.level.isLt⟩ : LevelIx) = e.level :=
    Fin.ext (indexByte_toNat e.level)
  have hin : a.inStack e.level = true := List.any_eq_true.2 ⟨e, h, by simp⟩
  unfold Arbiter.named
  rw [dif_pos (by rw [indexByte_toNat]; exact e.level.isLt), hl, if_pos hin]

theorem Arbiter.named_eq_none {a : Arbiter} {value : Byte} (h : ∀ e ∈ a.stack, e.level.val ≠ value.toNat) :
    a.named value = none := by
  unfold Arbiter.named
  split
  · next hv =>
    have hout : a.inStack ⟨value.toNat, hv⟩ = false := by
      simpa [Arbiter.inStack, Fin.ext_iff] using h
    simp [hout]
  · rfl

/-- The current level is the uppermost of the stack, or in SELECTIVE mode the uppermost unmasked one (R19). -/
theorem Arbiter.current_eq_some {a : Arbiter} {above below : List InService} {e : InService}
    (hstack : a.stack = above ++ e :: below)
    (h : (a.mode ≠ .selective ∧ above = []) ∨ (a.mode = .selective ∧ a.levels[e.level].masked = false ∧
      ∀ x ∈ above, a.levels[x.level].masked = true)) : a.current = some e.level := by
  rcases h with ⟨hmode, rfl⟩ | ⟨hmode, hunmasked, hmasked⟩
  · rw [Arbiter.current_of_not_selective hmode, hstack]
    rfl
  · have habove : (above.map InService.level).filter (fun x => !a.levels[x].masked) = [] := by
      simpa [List.filter_eq_nil_iff] using hmasked
    rw [Arbiter.current_of_selective hmode, hstack, List.map_append, List.filter_append, habove, List.map_cons,
      List.filter_cons_of_pos (by simpa using hunmasked)]
    rfl

theorem Arbiter.current_eq_none {a : Arbiter}
    (h : a.stack = [] ∨ (a.mode = .selective ∧ ∀ e ∈ a.stack, a.levels[e.level].masked = true)) :
    a.current = none := by
  rcases h with hempty | ⟨hmode, hmasked⟩
  · unfold Arbiter.current
    rw [hempty]
    split <;> rfl
  · have hall : (a.stack.map InService.level).filter (fun x => !a.levels[x].masked) = [] := by
      simpa [List.filter_eq_nil_iff] using hmasked
    rw [Arbiter.current_of_selective hmode, hall]
    rfl

theorem State.heard_current (s : State) : s.heard.arbiter.current = s.arbiter.current := by
  rcases s.heard_arbiter_cases with h | ⟨-, h⟩
  · rw [h]
  · rw [h]; rfl

theorem State.heard_named (s : State) (value : Byte) : s.heard.arbiter.named value = s.arbiter.named value := by
  rcases s.heard_arbiter_cases with h | ⟨-, h⟩
  · rw [h]
  · rw [h]; rfl

theorem State.heard_rotated (s : State) (l : LevelIx) : s.heard.arbiter.rotated l = s.arbiter.rotated l := by
  simp only [Arbiter.rotated, s.heard_bands]

/-- A completion takes the level from its one place in the stack (R12, R13). -/
theorem State.complete_heard {s : State} {above below : List InService} {e : InService}
    (hn : (s.arbiter.stack.map InService.level).Nodup) (hstack : s.arbiter.stack = above ++ e :: below) :
    s.heard.complete e.level = { s.heard with arbiter := { s.heard.arbiter with
      stack := above ++ below, bands := s.arbiter.rotated e.level } } := by
  rw [hstack] at hn
  rw [State.complete, Arbiter.complete_eq, s.heard_stack, hstack, stack_filter_middle above below e hn, s.heard_rotated]
  rfl

/-- A DONE that names a level acts on the state that has heard it. -/
theorem exec_done {s : State} (h : s.Hears) {value : Byte} (hv : value ≠ currentCode) :
    exec (.done value) s = .next (match s.arbiter.named value with
      | some l => s.heard.complete l
      | none => s.heard.alerted (.doneRefused .notInService value)) := by
  show Host.Outcome.next (s.onMessage fun t => t.done value) = _
  rw [s.onMessage_heard h, State.done, if_neg hv, s.heard_named]
  cases s.arbiter.named value with
  | some l => rfl
  | none => exact congrArg Host.Outcome.next (s.heard.alert_eq _)

/-- A DONE that names CURRENT acts on the state that has heard it. -/
theorem exec_doneCurrent {s : State} (h : s.Hears) :
    exec .doneCurrent s = .next (match s.arbiter.current with
      | some l => s.heard.complete l
      | none => s.heard.alerted (.doneRefused .noneInService currentCode)) := by
  show Host.Outcome.next (s.onMessage fun t => t.done currentCode) = _
  rw [s.onMessage_heard h, State.done, if_pos rfl, s.heard_current]
  cases s.arbiter.current with
  | some l => rfl
  | none => exact congrArg Host.Outcome.next (s.heard.alert_eq _)

/-- Settles O31: a DONE completes the level that it names, and is refused where it names none. -/
theorem doneCompletesALevel : Obligations.DoneCompletesALevel := by
  unfold Obligations.DoneCompletesALevel
  intro s hs hn
  refine ⟨fun above below e hstack => ⟨?_, fun hcurrent => ?_⟩, fun value hv hout => ?_, fun hnone => ?_⟩
  · have hmem : e ∈ s.arbiter.stack := by rw [hstack]; simp
    rw [exec_done hs (indexByte_ne_current _), Arbiter.named_eq_some hmem]
    exact congrArg Host.Outcome.next (State.complete_heard hn hstack)
  · rw [exec_doneCurrent hs, Arbiter.current_eq_some hstack hcurrent]
    exact congrArg Host.Outcome.next (State.complete_heard hn hstack)
  · rw [exec_done hs hv, Arbiter.named_eq_none hout]
  · rw [exec_doneCurrent hs, Arbiter.current_eq_none hnone]
    rfl

/-! ## RECALL (R47) -/

/-- A RECALL finds the one entry of a stack that holds each level once. -/
theorem Arbiter.recalled_eq_some {a : Arbiter} {e : InService} {value : Byte} (he : e ∈ a.stack)
    (hn : (a.stack.map InService.level).Nodup) (hv : e.level.val = value.toNat) : a.recalled value = some e := by
  have hfound : (a.recalled value).isSome = true := List.find?_isSome.2 ⟨e, he, by simpa using hv⟩
  obtain ⟨x, hx⟩ := Option.isSome_iff_exists.1 hfound
  have hlevel : x.level.val = value.toNat := by simpa using List.find?_some hx
  have hsame : x = e :=
    List.inj_on_of_nodup_map hn (List.mem_of_find?_eq_some hx) he (Fin.ext (hlevel.trans hv.symm))
  rw [hx, hsame]

theorem Arbiter.recalled_eq_none {a : Arbiter} {value : Byte} (h : ∀ e ∈ a.stack, e.level.val ≠ value.toNat) :
    a.recalled value = none :=
  List.find?_eq_none.2 fun e he => by simpa using h e he

theorem State.heard_recalled (s : State) (value : Byte) :
    s.heard.arbiter.recalled value = s.arbiter.recalled value := by
  rw [Arbiter.recalled, s.heard_stack]
  rfl

/-- A RECALL acts on the state that has heard it. -/
theorem exec_recall {s : State} (h : s.Hears) (value : Byte) :
    exec (.recall value) s = .next (if s.HasRoom then
      match s.arbiter.recalled value with
      | some e => s.heard.queued (.detail (.recalled e.level e.record))
      | none => s.heard.alerted (.recallRefused value)
    else s.heard.overran) := by
  show Host.Outcome.next (s.onMessage fun t => t.recall value) = _
  rw [s.onMessage_heard h, State.recall, s.heard_recalled]
  by_cases hroom : s.HasRoom
  · rw [if_pos ((Trunk.room_iff _).2 (s.heard_hasRoom hroom)), if_pos hroom]
    cases s.arbiter.recalled value with
    | some e => rfl
    | none => exact congrArg Host.Outcome.next (s.heard.alert_eq _)
  · rw [if_neg (by rw [Trunk.room_iff]; exact hroom), if_neg hroom]
    rfl

/-- Settles O32, by what a RECALL finds in the stack. -/
theorem recallRepeatsTheRecord : Obligations.RecallRepeatsTheRecord := by
  unfold Obligations.RecallRepeatsTheRecord
  intro s value hs
  refine ⟨fun e he hroom hn hv => ?_, fun hroom hout => ?_, fun hroom => ?_⟩
  · rw [exec_recall hs, if_pos hroom, Arbiter.recalled_eq_some he hn hv]
  · rw [exec_recall hs, if_pos hroom, Arbiter.recalled_eq_none hout]
    exact congrArg Host.Outcome.next (if_pos (s.heard_hasRoom hroom))
  · rw [exec_recall hs, if_neg hroom]

/-! ## The lapse of an offer (R39, R40) -/

/-- The expiry acts on an offer whose take timer runs (R31, R39). -/
theorem exec_takeTimerExpiry {s : State} (hlow : s.rstnLow = false) {l : LevelIx} {timer : Nat}
    (h : s.arbiter.state = .awaiting l timer) : exec .takeTimerExpiry s = .next (s.lapse l) := by
  show Host.Outcome.next (s.whileRunning _) = _
  rw [s.whileRunning_run _ hlow, h]

/-- Settles O33, by the comparison with the lapse limit. -/
theorem lapsesLeadToQuiescence : Obligations.LapsesLeadToQuiescence := by
  unfold Obligations.LapsesLeadToQuiescence
  intro s hlow
  refine ⟨fun l timer h => ⟨fun hbelow => ?_, fun hlimit => ?_⟩, fun h => ?_⟩
  · rw [exec_takeTimerExpiry hlow h, State.lapse, if_neg (by omega)]
    rfl
  · rw [exec_takeTimerExpiry hlow h, State.lapse, if_pos hlimit, State.alert_eq]
    rfl
  · show Host.Outcome.next (s.whileRunning _) = _
    rw [s.whileRunning_run _ hlow]
    split
    · next l timer hawaiting => exact absurd hawaiting (h l timer)
    · rfl

end Sys2Proof.Machine
end

section
/-! PROOFS. What the transmitter begins, ends and puts on TTX, and the bytes of every upstream message (O57). -/

namespace Sys2Proof.Machine

/-! ## The bytes of upstream messages (R196 to R198, Tables 10-1 to 10-3) -/

/-- The identity fields that a source of each kind has, as presence bits (Tables 1-3, 10-2). -/
def SourceKind.presenceBits : SourceKind → Byte
  | .selector => 0x0F
  | .tally | .presence | .portFault => 0x03
  | .signal => 0x01
  | .host => 0

/-- The second byte of a record: the presence bits, and the mixed flag in bit 7. -/
theorem Source.presence_byte (source : Source) (mixed : Bool) :
    flag 0 source.index.isSome ||| flag 1 source.port.isSome ||| flag 2 source.tag.isSome |||
        flag 3 source.generation.isSome ||| flag 7 mixed =
      source.kind.presenceBits ||| (if mixed = true then 0x80 else 0) := by
  revert mixed
  cases source <;> simp only [Source.index, Source.port, Source.tag, Source.generation, Source.kind,
    SourceKind.presenceBits, Option.isSome_some, Option.isSome_none] <;> decide

theorem Record.bytes_eq_recordLayout (r : Record) : r.bytes = recordLayout r := by
  simp only [Record.bytes, Source.presence_byte, recordLayout]
  cases r.source <;> rfl

theorem Record.bytes_length (r : Record) : r.bytes.length = 14 := rfl

theorem Detail.bytes_length (d : Detail) : d.bytes.length = 18 := by cases d <;> rfl

/-- Every upstream message has the Type and the fields of its layout. -/
theorem Upstream.type_payload_eq_layout (m : Upstream) : (m.type, m.payload) = m.layout := by
  cases m with
  | relay r =>
    obtain ⟨port, tag, data, time, entry⟩ := r
    cases entry <;> rfl
  | control m =>
    cases m with
    | notice number level kind count => rfl
    | detail d =>
      cases d with
      | taken number level record =>
        simp only [Upstream.layout, ← Record.bytes_eq_recordLayout]
        rfl
      | void number level => rfl
      | stale number => rfl
      | recalled level record =>
        simp only [Upstream.layout, ← Record.bytes_eq_recordLayout]
        rfl
    | reply r => rfl
    | result port request tag data outcome attempts => rfl
    | alert lost content => cases content <;> rfl

/-- Every upstream payload has the length of Table 10-1. -/
theorem Upstream.payload_length (m : Upstream) : m.payload.length = m.payloadLength := by
  cases m with
  | relay r => rfl
  | control m =>
    cases m with
    | detail d => exact d.bytes_length
    | reply r => exact Nat.add_comm r.data.length 4
    | alert lost content => cases content <;> rfl
    | notice | result => rfl

/-! ## TTX (R157) -/

theorem characterLevels_start (c : Byte) : (characterLevels c)[0]? = some false := rfl

theorem characterLevels_data (c : Byte) {b : Nat} (hb : b < 8) : (characterLevels c)[1 + b]? = some (c.getLsbD b) := by
  rw [Nat.add_comm]
  simp [characterLevels, List.getElem?_append_left, hb]

theorem characterLevels_stop (c : Byte) : (characterLevels c)[9]? = some true := rfl

theorem Transmission.levels_length (x : Transmission) : x.levels.length = 10 * x.characters.length := by
  simp [Transmission.levels, List.length_flatMap, Nat.mul_comm]

/-- TTX carries a message's characters back to back. -/
theorem Trunk.ttx_character {t : Trunk} {x : Transmission} (hx : t.sending = some x) {k j : Nat} {c : Byte}
    {level : Bool} (hk : x.characters[k]? = some c) (hj : j < 10) (hl : (characterLevels c)[j]? = some level) :
    t.ttx (10 * k + j) = level := by
  simp only [Trunk.ttx, hx, Transmission.levels, flatMap_characterLevels_get _ _ _ _ hk hj, hl, Option.getD_some]

theorem Trunk.ttx_after {t : Trunk} {x : Transmission} (hx : t.sending = some x) {n : Nat}
    (hn : 10 * x.characters.length ≤ n) : t.ttx n = true := by
  rw [← x.levels_length] at hn
  simp only [Trunk.ttx, hx, List.getElem?_eq_none hn, Option.getD_none]

theorem Trunk.ttx_idle {t : Trunk} (h : t.sending = none) (n : Nat) : t.ttx n = true := by
  simp only [Trunk.ttx, h]

/-! ## TRANSMIT_BEGIN (R166 to R169, R171) -/

theorem exec_transmitBegin {s : State} (hlow : s.rstnLow = false) :
    exec .transmitBegin s = .next s.beginTransmission :=
  congrArg Host.Outcome.next (s.whileRunning_run _ hlow)

/-- The control lane goes first, until eight of its messages have begun while RELAYs waited (R168). -/
theorem State.beginTransmission_control {s : State} {e : ControlEntry} {rest : List ControlEntry}
    (hs : s.trunk.sending = none) (hc : s.trunk.control = e :: rest)
    (hlane : s.trunk.relays = [] ∨ s.trunk.controlRun < 8) : s.beginTransmission = s.beginControl e rest := by
  unfold State.beginTransmission
  rw [hs, hc]
  cases hr : s.trunk.relays with
  | nil => rfl
  | cons r others => exact if_pos (hlane.resolve_left (by simp [hr]))

theorem State.beginTransmission_relay {s : State} {r : Relay} {rest : List Relay} (hs : s.trunk.sending = none)
    (hr : s.trunk.relays = r :: rest) (hlane : s.trunk.control = [] ∨ 8 ≤ s.trunk.controlRun) :
    s.beginTransmission = s.beginRelay r rest := by
  unfold State.beginTransmission
  rw [hs, hr]
  cases hc : s.trunk.control with
  | nil => rfl
  | cons e others => exact if_neg (Nat.not_lt.2 (hlane.resolve_left (by simp [hc])))

theorem State.beginTransmission_none {s : State}
    (h : s.trunk.sending ≠ none ∨ (s.trunk.control = [] ∧ s.trunk.relays = [])) : s.beginTransmission = s := by
  unfold State.beginTransmission
  rcases h with hs | ⟨hc, hr⟩
  · cases hx : s.trunk.sending with
    | none => exact absurd hx hs
    | some x => rfl
  · rw [hc, hr]
    cases s.trunk.sending <;> rfl

/-- The state once the head of the control lane has begun, before an offer that waited for room. -/
def State.controlBegun (s : State) (e : ControlEntry) (rest : List ControlEntry) : State :=
  { s with trunk := { s.trunk with
    control := rest
    sending := some ⟨.control e.message, s.trunk.sequence, s.trunk.rate, e.pendingRate,
      TrunkMessage.characters ⟨e.message.type, s.trunk.sequence, e.message.payload⟩⟩
    sequence := s.trunk.sequence + 1
    controlRun := if s.trunk.relays = [] then 0 else s.trunk.controlRun + 1 } }

/-- A control message that begins lets an offer follow where the lane was full (R27, log 17). -/
theorem State.beginControl_eq (s : State) (e : ControlEntry) (rest : List ControlEntry) :
    s.beginControl e rest =
      if s.trunk.room then s.controlBegun e rest else (s.controlBegun e rest).makeOffer := by
  unfold State.beginControl State.controlBegun
  cases s.trunk.relays <;> rfl

/-! ## TRANSMIT_END (R30, R158, R166) -/

/-- The end of the NOTICE of the offer in PRESENTING starts the take timer, and no other end is reported (R30). -/
theorem Arbiter.messageSent_eq (a : Arbiter) (m : Upstream) :
    a.messageSent m =
      match m, a.state with
      | .control (.notice number _ _ _), .presenting l =>
        if number = a.number then { a with state := .awaiting l a.takeLimit } else a
      | _, _ => a := by
  unfold Arbiter.messageSent Arbiter.noticeSent
  cases m with
  | relay r => rfl
  | control m =>
    cases m with
    | notice number level kind count => cases a.state <;> simp only [eq_comm]
    | detail | reply | result | alert => rfl

theorem State.endTransmission_eq {s : State} {x : Transmission} (h : s.trunk.sending = some x) :
    s.endTransmission =
      (s.withTrunk { s.trunk with sending := none, rate := x.pendingRate.getD s.trunk.rate }).withArbiter
        (s.arbiter.messageSent x.message) := by
  simp only [State.endTransmission, h]

theorem State.endTransmission_none {s : State} (h : s.trunk.sending = none) : s.endTransmission = s := by
  simp only [State.endTransmission, h]

/-- Settles O57: the lane by the starvation guard, the wire character by character, the bytes by the kind of message. -/
theorem messagesAreSent : Obligations.MessagesAreSent := by
  unfold Obligations.MessagesAreSent
  intro s
  refine ⟨fun e rest hlow hs hc hlane => ⟨fun hroom => ?_, fun hroom => ?_⟩, fun r rest hlow hs hr hlane => ?_,
    fun h => ?_, fun x hx => ?_, fun hs => ⟨congrArg Host.Outcome.next (State.endTransmission_none hs),
      Trunk.ttx_idle hs⟩, fun x hx => ⟨fun k c hk => ⟨?_, fun b hb => ?_, ?_⟩, fun n hn => Trunk.ttx_after hx hn⟩,
    fun m => ⟨m.type_payload_eq_layout, m.payload_length⟩, rfl, rfl, rfl, rfl, rfl, rfl⟩
  · rw [exec_transmitBegin hlow, State.beginTransmission_control hs hc hlane, State.beginControl_eq,
      if_pos ((Trunk.room_iff _).2 hroom)]
    rfl
  · rw [exec_transmitBegin hlow, State.beginTransmission_control hs hc hlane, State.beginControl_eq,
      if_neg (by rwa [Trunk.room_iff])]
    exact (congrArg Host.Outcome.next ((s.controlBegun e rest).whileRunning_run State.makeOffer hlow)).symm
  · rw [exec_transmitBegin hlow, State.beginTransmission_relay hs hr hlane]
    rfl
  · show Host.Outcome.next (s.whileRunning State.beginTransmission) = _
    unfold State.whileRunning
    rw [State.beginTransmission_none h, ite_self]
  · show Host.Outcome.next s.endTransmission = _
    rw [State.endTransmission_eq hx, Arbiter.messageSent_eq]
    rfl
  · exact Trunk.ttx_character hx hk (by decide) (characterLevels_start c)
  · rw [Nat.add_assoc]
    exact Trunk.ttx_character hx hk (by omega) (characterLevels_data c hb)
  · exact Trunk.ttx_character hx hk (by decide) (characterLevels_stop c)

end Sys2Proof.Machine
end

section
/-! PROOFS. The selector commands, the collected list and the grant (O34 to O38). -/

namespace Sys2Proof.Machine

/-! ## Selector entries as bytes (R51, R72, R200) -/

@[simp] theorem index?_entry (i : EntryIx) : index? 48 (indexByte i) = some i := index?_indexByte (by decide) i

/-- A TALLY step reads back from its byte (R200). -/
theorem step?_ofInt {i : Int} (h : -127 ≤ i) (h' : i ≤ 127) (h0 : i ≠ 0) : step? (BitVec.ofInt 8 i) = some i := by
  have hi : (BitVec.ofInt 8 i : Byte).toInt = i := BitVec.toInt_ofInt_eq_self (by decide) (by omega) (by omega)
  unfold step?
  rw [if_neg, hi]
  rintro (e | e)
  · rw [e] at hi; exact h0 hi.symm
  · rw [e] at hi; exact absurd (show (-128 : Int) = i from hi) (by omega)

/-- The tag byte of an entry: the tag match, or ANY (R200). -/
def tagByte : Option Tag → Byte
  | some tag => tag.setWidth 8
  | none => absentCode

/-- The first byte of an entry: the valid bit, the continue flag and the action code (R200). -/
def entryByte (valid goesOn : Bool) (a : Action) : Byte := flag 7 valid ||| flag 6 goesOn ||| a.code

theorem Selector.bytes_eq (e : Selector) :
    e.bytes = [entryByte e.valid e.goesOn e.action, e.ports, tagByte e.tag, e.low, e.high, e.action.arguments.1,
      e.action.arguments.2] := rfl

theorem tagMatch?_tagByte {t : Option Tag} (h : t ≠ some 7) : tagMatch? (tagByte t) = some t := by
  have hbyte : ∀ tag : Tag, tag.setWidth 8 ≠ absentCode := by decide
  cases t with
  | none => rfl
  | some tag =>
    simp only [tagByte, tagMatch?, if_neg (hbyte tag), tag?_setWidth (fun e => h (congrArg some e)), Option.map_some]

/-- An action that LOAD_SELECTOR can write reads back from its code and its two argument bytes. -/
theorem action?_code {a : Action} (h : a.Good = true) :
    action? (a.code.setWidth 3) a.arguments.1 a.arguments.2 = some a := by
  have hlevel (l : LevelIx) : index? 16 (number8 l) = some l := index?_indexByte (by decide) l
  cases a with
  | discard => rfl
  | forward => rfl
  | assert l => exact congrArg (Option.map Action.assert) (hlevel l)
  | withdraw l => exact congrArg (Option.map Action.withdraw) (hlevel l)
  | tally t amount =>
    simp only [Action.Good, Bool.and_eq_true, decide_eq_true_eq, bne_iff_ne] at h
    obtain ⟨⟨hlow, hhigh⟩, hzero⟩ := h
    have htally : index? 8 (number8 t) = some t := index?_indexByte (by decide) t
    show (index? 8 (number8 t)).bind _ = _
    simp only [htally, Action.arguments, step?_ofInt hlow hhigh hzero]
    rfl
  | signal o x =>
    have houtput : index? 4 (number8 o) = some o := index?_indexByte (by decide) o
    have hpattern : index? 16 (number8 x) = some x := index?_indexByte (by decide) x
    show (index? 4 (number8 o)).bind _ = _
    simp only [houtput, Action.arguments, hpattern]
    rfl
  | answer tag data =>
    have htag : tag ≠ 7 := by simpa [Action.Good] using h
    show (tag? (tag.setWidth 8)).map _ = _
    rw [tag?_setWidth htag]
    rfl

theorem entryByte_fields (goesOn : Bool) (a : Action) :
    (entryByte true goesOn a).getLsbD 7 = true ∧ (entryByte true goesOn a).getLsbD 6 = goesOn ∧
    entryByte true goesOn a &&& 0x38 = 0 ∧ (entryByte true goesOn a).setWidth 3 = a.code.setWidth 3 := by
  unfold entryByte
  cases a <;> simp only [Action.code] <;> revert goesOn <;> decide

/-- A valid entry with its fields in range reads back from the bytes that are stored of it (R72, R200). -/
theorem selector?_bytes {e : Selector} (hv : e.valid = true) (hg : e.Good = true) :
    selector? (entryByte e.valid e.goesOn e.action) e.ports (tagByte e.tag) e.low e.high e.action.arguments.1
      e.action.arguments.2 = some e := by
  have hnot : e ≠ Selector.cleared := by rintro rfl; cases hv
  obtain ⟨valid, goesOn, ports, tag, low, high, action⟩ := e
  simp only at hv
  subst hv
  simp only [Selector.Good, Bool.or_eq_true, Bool.and_eq_true, beq_iff_eq, hnot, false_or, bne_iff_ne,
    decide_eq_true_eq] at hg
  obtain ⟨⟨⟨⟨-, hports⟩, hrange⟩, htag⟩, haction⟩ := hg
  obtain ⟨hbit7, hbit6, hreserved, hcode⟩ := entryByte_fields goesOn action
  rw [selector?, if_pos hbit7, if_pos ⟨hreserved, hports, hrange⟩, tagMatch?_tagByte htag, hcode, action?_code haction,
    hbit6]
  rfl

/-- With the valid bit clear nothing else is looked at (R52). -/
theorem selector?_invalid {b0 : Byte} (h : b0.getLsbD 7 = false) (ports tag low high first second : Byte) :
    selector? b0 ports tag low high first second = some Selector.cleared := by
  rw [selector?, h]
  rfl

/-! ## The selector commands (R72 to R76) -/

/-- LOAD_SELECTOR writes the entry that its seven bytes give to the shadow bank (R72). -/
theorem cmdLoadSelector_ok {b0 ports tag low high first second : Byte} {e : Selector} (s : State) (i : EntryIx)
    (he : selector? b0 ports tag low high first second = some e) :
    cmdLoadSelector [indexByte i, b0, ports, tag, low, high, first, second] s =
      ⟨s.withBank s.classifier.active.other
        (update (s.classifier.bank s.classifier.active.other) i fun _ => ⟨e, 0⟩), .ok,
        [s.classifier.active.other.code] ++ word s.classifier.generation, none⟩ := by
  simp only [cmdLoadSelector, index?_entry, he, inRange]
  rfl

/-- Settles O34: the entry reads back from its bytes, or is the cleared one. -/
theorem selectorsAreLoaded : Obligations.SelectorsAreLoaded := by
  unfold Obligations.SelectorsAreLoaded
  intro s sequence i h
  refine ⟨fun e hv hg => ?_, fun b0 ports tag low high first second hb => ?_⟩
  · rw [Selector.bytes_eq]
    exact exec_replied h (c := .loadSelector) rfl (cmdLoadSelector_ok s.heard i (selector?_bytes hv hg))
  · exact exec_replied h (c := .loadSelector) rfl
      (cmdLoadSelector_ok s.heard i (selector?_invalid hb ports tag low high first second))

@[simp] theorem Classifier.withBank_bank_same (c : Classifier) (which : Bank) (v : Vector Slot 48) :
    (c.withBank which v).bank which = v := by cases which <;> rfl

/-- Rewriting one bank leaves the other alone. -/
@[simp] theorem Classifier.withBank_other_bank (c : Classifier) (which : Bank) (v : Vector Slot 48) :
    (c.withBank which.other v).bank which = c.bank which := by cases which <;> rfl

@[simp] theorem Classifier.withBank_bank_other (c : Classifier) (which : Bank) (v : Vector Slot 48) :
    (c.withBank which v).bank which.other = c.bank which.other := by cases which <;> rfl

/-- A rewritten bank is all that changes. -/
theorem Classifier.withBank_eq (c : Classifier) (which : Bank) (v : Vector Slot 48) :
    c.withBank which v =
      { c with bankA := (c.withBank which v).bankA, bankB := (c.withBank which v).bankB } := by cases which <;> rfl

/-- Settles O35: both commands rewrite the shadow bank and nothing else. -/
theorem shadowIsClearedOrCopied : Obligations.ShadowIsClearedOrCopied := by
  unfold Obligations.ShadowIsClearedOrCopied
  intro s sequence h
  refine ⟨⟨s.classifier.withBank s.classifier.shadow (Vector.replicate 48 Slot.cold), fun i => ?_,
      s.classifier.withBank_other_bank _ _, s.classifier.withBank_eq _ _, ?_⟩,
    ⟨s.classifier.withBank s.classifier.shadow
        (mapAll (fun x => { x with hits := 0 }) (s.classifier.bank s.classifier.active)), fun i => ?_,
      s.classifier.withBank_other_bank _ _, s.classifier.withBank_eq _ _, ?_⟩⟩
  · rw [Classifier.shadow, Classifier.withBank_bank_same]
    exact forall_replicate (P := fun x => x = Slot.cold) rfl i
  · exact exec_replied h (c := .clearShadow) (body := cmdClearShadow []) rfl rfl
  · rw [Classifier.shadow, Classifier.withBank_bank_same]
    exact mapAll_getElem _ _ _ _
  · exact exec_replied h (c := .copyActive) (body := cmdCopyActive []) rfl rfl

/-- READ_SELECTOR reports a place of either bank and clears its hit count on request (R76). -/
theorem cmdReadSelector_ok (s : State) (which : Bank) (i : EntryIx) (clear : Bool) :
    cmdReadSelector [which.code, indexByte i, settingByte clear] s =
      ⟨s.withClassifier (if clear = true then
          s.classifier.withBank which (update (s.classifier.bank which) i fun x => ⟨x.entry, 0⟩)
        else s.classifier), .ok,
        [which.code, if which = s.classifier.active then 1 else 0] ++ word s.classifier.generation ++
          (s.classifier.bank which)[i].entry.bytes ++ word (s.classifier.bank which)[i].hits, none⟩ := by
  simp only [cmdReadSelector, bank?_code, index?_entry, setting?_settingByte, inRange]
  cases clear <;> rfl

/-- Settles O36: the commit rewrites the marker and the generation, READ_SELECTOR one hit count at most. -/
theorem banksSwapAndReport : Obligations.BanksSwapAndReport := by
  unfold Obligations.BanksSwapAndReport
  intro s sequence h
  refine ⟨?_, fun which i clear => ?_⟩
  · exact exec_replied h (c := .commitSelectors) (body := cmdCommitSelectors []) rfl rfl
  · exact exec_replied h (c := .readSelector) rfl (cmdReadSelector_ok s.heard which i clear)

/-! ## Matching and the collected list (R53, R61) -/

theorem Selector.accepts_iff (e : Selector) (p : PortIx) (f : Frame) :
    e.accepts p f = true ↔
      e.valid = true ∧ e.ports.getLsbD p = true ∧ (e.tag = none ∨ e.tag = some f.tag) ∧
      e.low.toNat ≤ f.data.toNat ∧ f.data.toNat ≤ e.high.toNat := by
  simp only [Selector.accepts, Bool.and_eq_true, Bool.or_eq_true, Option.isNone_iff_eq_none, beq_iff_eq,
    decide_eq_true_eq, BitVec.le_def, and_assoc]

/-- The walk takes entries in the order in which it meets them. -/
theorem collect_sublist (bank : Vector Slot 48) (p : PortIx) (f : Frame) (walk : List EntryIx) :
    (collect bank p f walk).Sublist walk := by
  induction walk with
  | nil => exact List.Sublist.refl _
  | cons i rest ih =>
    unfold collect
    split
    · split
      · exact ih.cons_cons i
      · exact (List.nil_sublist rest).cons_cons i
    · exact ih.cons i

/-- A matching entry is collected, and lets the walk go on where its continue flag is ON (R61). -/
theorem mem_collect_cons (bank : Vector Slot 48) (p : PortIx) (f : Frame) (i k : EntryIx) (rest : List EntryIx) :
    k ∈ collect bank p f (i :: rest) ↔
      (k = i ∧ bank[i].entry.accepts p f = true) ∨
      (k ∈ collect bank p f rest ∧ (bank[i].entry.accepts p f = true → bank[i].entry.goesOn = true)) := by
  rw [collect]
  split_ifs with hm hg
  · rw [List.mem_cons]; tauto
  · rw [List.mem_singleton]; tauto
  · tauto

/-- What a walk in rising index collects: each matching entry with no matching entry before it that stops the walk. -/
theorem mem_collect_iff (bank : Vector Slot 48) (p : PortIx) (f : Frame) {walk : List EntryIx}
    (hw : walk.Pairwise (· < ·)) (k : EntryIx) :
    k ∈ collect bank p f walk ↔
      k ∈ walk ∧ bank[k].entry.accepts p f = true ∧
      ∀ j ∈ walk, j < k → bank[j].entry.accepts p f = true → bank[j].entry.goesOn = true := by
  induction walk with
  | nil => simp [collect]
  | cons i rest ih =>
    obtain ⟨hfirst, hrest⟩ := List.pairwise_cons.1 hw
    rw [mem_collect_cons, ih hrest]
    constructor
    · rintro (⟨rfl, hk⟩ | ⟨⟨hmem, hk, hbefore⟩, hon⟩)
      · refine ⟨List.mem_cons_self, hk, fun j hj hlt => ?_⟩
        rcases List.mem_cons.1 hj with rfl | hj
        · exact absurd hlt (lt_irrefl j)
        · exact absurd hlt (hfirst j hj).asymm
      · refine ⟨List.mem_cons_of_mem i hmem, hk, fun j hj hlt hm => ?_⟩
        rcases List.mem_cons.1 hj with rfl | hj
        · exact hon hm
        · exact hbefore j hj hlt hm
    · rintro ⟨hmem, hk, hbefore⟩
      rcases List.mem_cons.1 hmem with rfl | hmem
      · exact .inl ⟨rfl, hk⟩
      · exact .inr ⟨⟨hmem, hk, fun j hj => hbefore j (List.mem_cons_of_mem i hj)⟩,
          hbefore i List.mem_cons_self (hfirst k hmem)⟩

/-- Settles O37: the walk goes over all the entries in rising index. -/
theorem collectedListIsAContinueChain : Obligations.CollectedListIsAContinueChain := by
  unfold Obligations.CollectedListIsAContinueChain
  intro c p f
  have hwalk : (List.finRange 48).Pairwise (· < ·) := List.pairwise_lt_finRange 48
  refine ⟨fun i => Selector.accepts_iff _ p f, hwalk.sublist (collect_sublist ..), fun i => ?_⟩
  simpa [Classifier.collected] using mem_collect_iff (c.bank c.active) p f hwalk i

/-! ## The grant (R58, R59) -/

theorem Trunk.relayFull_iff (t : Trunk) : t.relayFull = true ↔ 24 ≤ t.relays.length := decide_eq_true_iff

theorem State.grantable_iff (s : State) (p : PortIx) :
    s.grantable p = true ↔
      s.ports[p].intake ≠ [] ∧ ¬ (s.classifier.deferred[p] = true ∧ 24 ≤ s.trunk.relays.length) := by
  rw [State.grantable, ← Trunk.relayFull_iff]
  simp only [Bool.and_eq_true, Bool.not_eq_true', ← Bool.not_eq_true, List.isEmpty_iff, ne_eq]

/-- The first of the ports from `g` on, wrapping, for which `ok` holds, is the nearest one upward from `g`. -/
theorem find?_from_iff (ok : PortIx → Bool) (g p : PortIx) :
    ((List.finRange 8).map fun k => g + k).find? ok = some p ↔
      ok p = true ∧ ∀ q, ok q = true → (p - g).val ≤ (q - g).val := by
  have hfar (k : PortIx) : g + k - g = k := add_sub_cancel_left g k
  have hport (q : PortIx) : g + (q - g) = q := add_sub_cancel g q
  rw [List.find?_eq_some_iff_getElem]
  refine and_congr_right fun hp => ⟨?_, fun hmin => ?_⟩
  · rintro ⟨k, hk, rfl, hbefore⟩ q hq
    simp only [List.getElem_map, List.getElem_finRange, hfar] at hbefore ⊢
    by_contra hlt
    have hskipped := hbefore (q - g).val (Nat.lt_of_not_le hlt)
    simp [hport, hq] at hskipped
  · refine ⟨(p - g).val, by simp, by simp [hport], fun j hj => ?_⟩
    simp only [List.getElem_map, List.getElem_finRange, Bool.not_eq_true']
    by_contra hok
    have hnear := hmin _ (by simpa using hok)
    rw [hfar] at hnear
    exact absurd hj (Nat.not_lt.2 hnear)

/-- Settles O38: the search from the grant pointer finds the nearest grantable port, and without one CLASSIFY waits. -/
theorem grantGoesRound : Obligations.GrantGoesRound := by
  unfold Obligations.GrantGoesRound
  intro s
  refine ⟨s.grantable_iff, find?_from_iff s.grantable s.classifier.grant, fun hnone => ?_⟩
  have hgranted : s.granted = none := by simp [State.granted, hnone]
  show Host.Outcome.next (s.whileRunning State.classify) = _
  unfold State.whileRunning
  rw [State.classify, hgranted, ite_self]

end Sys2Proof.Machine
end

section
/-! PROOFS. The actions of a collected list: their effects on the owners, the hit counts and the one RELAY, and the
deferral (O39). -/

namespace Sys2Proof

variable {α : Type} {n : Nat}

theorem update_unchanged (v : Vector α n) (i : Fin n) : (update v i fun x => x) = v := by
  simp [update]

/-- A replaced item leaves every other item as it is. -/
theorem update_other (v : Vector α n) (i : Fin n) (f : α → α) {k : Fin n} (h : k ≠ i) :
    (update v i f)[k] = v[k] :=
  update_getElem_other _ _ _ _ _ fun e => h (Fin.ext e.symm)

end Sys2Proof

namespace Sys2Proof.Machine

/-! ## A relay that is dropped for want of room (R68) -/

/-- The port counts a relay dropped (R68). -/
def Port.dropRelay (pt : Port) : Port :=
  { pt with stats := { pt.stats with relayDrops := satInc pt.stats.relayDrops } }

@[simp] theorem Port.dropRelay_line (pt : Port) : pt.dropRelay.line = pt.line := rfl
@[simp] theorem Port.dropRelay_queue (pt : Port) : pt.dropRelay.queue = pt.queue := rfl
@[simp] theorem Port.dropRelay_presence (pt : Port) : pt.dropRelay.presence = pt.presence := rfl
@[simp] theorem Port.dropRelay_config (pt : Port) : pt.dropRelay.config = pt.config := rfl

/-- A count of relays dropped beside the raising of a reason: the two meet in no field. -/
theorem Port.raise_dropRelay (pt : Port) (r : Reason) : pt.dropRelay.raise r = (pt.raise r).dropRelay := by
  cases ha : pt.line.activity with
  | none | closing => simp only [Port.raise, Port.dropRelay_line, ha]; rfl
  | inbound bits low gone =>
    by_cases hb : pt.line.reasons.any = false ∧ bits.length < 12
    · rw [pt.raise_holds_off r ha hb.1 hb.2, pt.dropRelay.raise_holds_off r ha hb.1 hb.2]
      cases gone <;> rfl
    · have hw : pt.line.reasons.any = true ∨ 12 ≤ bits.length := by
        rw [not_and_or, Bool.not_eq_false, Nat.not_lt] at hb; exact hb
      rw [pt.raise_waits r ha hw, pt.dropRelay.raise_waits r ha hw]
      rfl
  | holdPhase | awaitClock | outbound =>
    have hp : pt.line.attempting = true := by simp [Line.attempting, ha]
    cases hc : r.cuts with
    | true => rw [pt.raise_cuts r hp hc, pt.dropRelay.raise_cuts r hp hc]; rfl
    | false => rw [pt.raise_attempt_waits r hp hc, pt.dropRelay.raise_attempt_waits r hp hc]; rfl

theorem Port.testPreempt_dropRelay (pt : Port) : pt.dropRelay.testPreempt = pt.testPreempt.dropRelay := by
  cases hr : pt.line.ready with
  | none => simp only [Port.testPreempt, Port.dropRelay_line, hr]
  | some r =>
    simp only [Port.testPreempt, Port.dropRelay_line, Port.dropRelay_config, hr, Port.raise_dropRelay,
      apply_ite Port.dropRelay]

theorem Port.handHead_dropRelay (pt : Port) : pt.dropRelay.handHead = pt.handHead.dropRelay := by
  by_cases hp : pt.presence = .present
  · cases hr : pt.line.ready with
    | some r =>
      rw [pt.handHead_nothing (.inl (by simp [hr])), pt.dropRelay.handHead_nothing (.inl (by simp [hr]))]
    | none =>
      cases hq : pt.queue with
      | nil => rw [pt.handHead_nothing (.inr hq), pt.dropRelay.handHead_nothing (.inr hq)]
      | cons e rest =>
        rw [pt.handHead_present hp hq hr, pt.dropRelay.handHead_present hp hq hr, ← Port.testPreempt_dropRelay]
        rfl
  · rw [pt.handHead_absent hp, pt.dropRelay.handHead_absent hp]

theorem Port.answer_dropRelay (pt : Port) (tag : Tag) (data : Byte) :
    pt.dropRelay.answer tag data = (pt.answer tag data).dropRelay := by
  simp only [Port.answer, Port.dropRelay_presence, Port.dropRelay_queue, apply_ite Port.dropRelay]
  exact congrArg₂ (ite _) (Port.handHead_dropRelay { pt with queue := pt.queue ++ [⟨tag, data, none⟩] }) rfl

/-! ## One action, apart from the RELAY -/

/-- What an action does to the port of its frame (R71). -/
def Action.onPort : Action → Port → Port
  | .answer tag data, pt => pt.answer tag data
  | _, pt => pt

theorem Action.onPort_dropRelay (a : Action) (pt : Port) : a.onPort pt.dropRelay = (a.onPort pt).dropRelay := by
  cases a with
  | answer tag data => exact pt.answer_dropRelay tag data
  | _ => rfl

variable (s : State) (p : PortIx) (f : Frame)

/-- An action that relays nothing does to the arbiter, the tallies and the outputs what its rule says, and to its port
what an ANSWER does (R66, R69 to R71). -/
theorem State.act_eq (i : EntryIx) (a : Action) :
    s.act p f i false a = (s.acted p f i a).withPorts (update s.ports p a.onPort) := by
  have hother {t : State} (hact : s.act p f i false a = t) (hport : a.onPort = fun x => x) (hports : t.ports = s.ports) :
      s.act p f i false a = t.withPorts (update s.ports p a.onPort) := by
    rw [hport, update_unchanged, hact, ← hports]; rfl
  cases a with
  | answer tag data => rfl
  | tally k amount => exact hother (s.tallyStep_eq p f k amount i) rfl rfl
  | assert l => exact hother (s.assertLevel_eq ..) rfl rfl
  | signal o x =>
    refine hother ?_ rfl rfl
    simp only [State.act, State.signalAction, State.acted]
    cases s.patterns[x] <;> rfl
  | discard | withdraw | forward => exact hother rfl rfl rfl

theorem State.act_not_forward {a : Action} (h : a.isForward = false) (i : EntryIx) (relays : Bool) :
    s.act p f i relays a = s.act p f i false a := by
  cases a with
  | forward => cases h
  | _ => rfl

@[simp] theorem State.act_classifier (i : EntryIx) (a : Action) :
    (s.act p f i false a).classifier = s.classifier := by
  rw [State.act_eq]; cases a <;> rfl

@[simp] theorem State.act_trunk (i : EntryIx) (a : Action) : (s.act p f i false a).trunk = s.trunk := by
  rw [State.act_eq]; cases a <;> rfl

/-- An action reads the generation of the classifier and nothing else of it (R66). -/
theorem State.act_withClassifier {c : Classifier} (hg : c.generation = s.classifier.generation) (i : EntryIx)
    (a : Action) : (s.withClassifier c).act p f i false a = (s.act p f i false a).withClassifier c := by
  rw [State.act_eq, State.act_eq]
  cases a with
  | assert l => simp only [State.acted, State.withClassifier_classifier, hg]; rfl
  | _ => rfl

theorem State.act_withTrunk (t : Trunk) (i : EntryIx) (a : Action) :
    (s.withTrunk t).act p f i false a = (s.act p f i false a).withTrunk t := by
  rw [State.act_eq, State.act_eq]; cases a <;> rfl

theorem State.act_dropRelay (i : EntryIx) (a : Action) :
    (s.onPort p Port.dropRelay).act p f i false a = (s.act p f i false a).onPort p Port.dropRelay := by
  have hports : update (update s.ports p Port.dropRelay) p a.onPort =
      update (update s.ports p a.onPort) p Port.dropRelay := by
    simp only [update_update]
    exact update_congr _ p (a.onPort_dropRelay _)
  rw [State.act_eq, State.act_eq, State.onPort_ports, hports]
  cases a <;> rfl

/-! ## The effects of the entries, apart from the RELAY and the hit counts -/

/-- What the actions of these entries do to the owners, in order; the RELAY of a FORWARD is said apart. -/
def State.effects (action : EntryIx → Action) (list : List EntryIx) : State :=
  list.foldl (fun t i => t.act p f i false (action i)) s

/-- A relay, where one is due (R64, R67). -/
def State.relayIf (due : Bool) (entry : Option EntryIx) : State := if due then s.forward p f entry else s

/-- A relay before an action is a relay after it. -/
theorem State.act_relayIf (due : Bool) (entry : Option EntryIx) (i : EntryIx) (a : Action) :
    (s.relayIf p f due entry).act p f i false a = (s.act p f i false a).relayIf p f due entry := by
  cases due with
  | false => rfl
  | true =>
    simp only [State.relayIf, State.forward, State.act_trunk, if_true]
    by_cases hfull : s.trunk.relayFull = true
    · simp only [hfull, if_true]; exact s.act_dropRelay p f i a
    · simp only [hfull]; exact s.act_withTrunk p f _ i a

theorem State.effects_relayIf (due : Bool) (entry : Option EntryIx) (action : EntryIx → Action)
    (list : List EntryIx) :
    (s.relayIf p f due entry).effects p f action list = (s.effects p f action list).relayIf p f due entry :=
  List.foldl_hom (State.relayIf · p f due entry) fun t i => t.act_relayIf p f due entry i (action i)

theorem State.relayIf_withClassifier (due : Bool) (entry : Option EntryIx) (c : Classifier) :
    (s.relayIf p f due entry).withClassifier c = (s.withClassifier c).relayIf p f due entry := by
  simp only [State.relayIf, State.forward, State.withClassifier_trunk, apply_ite (State.withClassifier · c)]
  rfl

theorem State.relayIf_classifier (due : Bool) (entry : Option EntryIx) :
    (s.relayIf p f due entry).classifier = s.classifier := by
  simp only [State.relayIf, State.forward, apply_ite State.classifier, State.onPort_classifier,
    State.withTrunk_classifier, ite_self]

theorem State.effects_withClassifier {c : Classifier} (hg : c.generation = s.classifier.generation)
    (action : EntryIx → Action) (list : List EntryIx) :
    (s.withClassifier c).effects p f action list = (s.effects p f action list).withClassifier c := by
  induction list generalizing s with
  | nil => rfl
  | cons i rest ih =>
    simp only [State.effects, List.foldl_cons, s.act_withClassifier p f hg]
    exact ih _ (by rw [s.act_classifier, hg])

/-! ## The hit counts (R56, R63) -/

@[simp] theorem Classifier.withBank_active (c : Classifier) (which : Bank) (v : Vector Slot 48) :
    (c.withBank which v).active = c.active := by cases which <;> rfl

@[simp] theorem Classifier.withBank_generation (c : Classifier) (which : Bank) (v : Vector Slot 48) :
    (c.withBank which v).generation = c.generation := by cases which <;> rfl

@[simp] theorem Classifier.withBank_grant (c : Classifier) (which : Bank) (v : Vector Slot 48) :
    (c.withBank which v).grant = c.grant := by cases which <;> rfl

@[simp] theorem Classifier.withBank_deferred (c : Classifier) (which : Bank) (v : Vector Slot 48) :
    (c.withBank which v).deferred = c.deferred := by cases which <;> rfl

@[simp] theorem Classifier.withBank_withBank (c : Classifier) (which : Bank) (v w : Vector Slot 48) :
    (c.withBank which v).withBank which w = c.withBank which w := by cases which <;> rfl

theorem Classifier.withBank_unchanged (c : Classifier) (which : Bank) : c.withBank which (c.bank which) = c := by
  cases which <;> rfl

/-- A bank once these entries have counted one hit each. -/
def bankHits (bank : Vector Slot 48) (list : List EntryIx) : Vector Slot 48 :=
  list.foldl (fun v i => update v i fun x => { x with hits := satInc x.hits }) bank

/-- Each entry of a list without repetition counts one hit, and no other entry does. -/
theorem bankHits_getElem (bank : Vector Slot 48) {list : List EntryIx} (hl : list.Nodup) (k : EntryIx) :
    (bankHits bank list)[k] =
      ⟨bank[k].entry, if k ∈ list then satInc bank[k].hits else bank[k].hits⟩ := by
  induction list generalizing bank with
  | nil => rfl
  | cons i rest ih =>
    obtain ⟨hi, hrest⟩ := List.nodup_cons.1 hl
    refine (ih (update bank i _) hrest).trans ?_
    by_cases hk : i = k
    · subst hk; simp [hi]
    · have hv : i.val ≠ k.val := fun e => hk (Fin.ext e)
      simp [update_getElem_other _ _ _ _ _ hv, Ne.symm hk]

/-- The first FORWARD of these entries (R67). -/
def firstForward (action : EntryIx → Action) (list : List EntryIx) : Option EntryIx :=
  list.find? fun i => action i == .forward

theorem Action.isForward_eq (a : Action) : a.isForward = (a == .forward) := by
  cases a <;> rfl

/-- The classifier once these entries of the active bank have counted one hit each. -/
def Classifier.countHits (c : Classifier) (list : List EntryIx) : Classifier :=
  c.withBank c.active (bankHits (c.bank c.active) list)

theorem State.countHit_eq (i : EntryIx) : s.countHit i = s.withClassifier (s.classifier.countHits [i]) := rfl

theorem Classifier.countHits_nil (c : Classifier) : c.countHits [] = c := c.withBank_unchanged c.active

theorem Classifier.countHits_cons (c : Classifier) (i : EntryIx) (rest : List EntryIx) :
    (c.countHits [i]).countHits rest = c.countHits (i :: rest) := by
  simp only [Classifier.countHits, Classifier.withBank_active, Classifier.withBank_bank_same,
    Classifier.withBank_withBank]
  rfl

theorem Classifier.countHits_generation (c : Classifier) (list : List EntryIx) :
    (c.countHits list).generation = c.generation := c.withBank_generation _ _

/-- Counting a hit changes no entry. -/
theorem Classifier.countHits_entry (c : Classifier) (i k : EntryIx) :
    ((c.countHits [i]).bank (c.countHits [i]).active)[k].entry = (c.bank c.active)[k].entry := by
  rw [Classifier.countHits, Classifier.withBank_active, Classifier.withBank_bank_same,
    bankHits_getElem _ (List.nodup_singleton i)]

/-! ## The actions of a whole list (R63, R67) -/

/-- The entries of a list act in order, each counted: the effects on their owners, one hit for each, and the RELAY of the
first FORWARD. -/
theorem State.actAll_eq {action : EntryIx → Action} (ha : ∀ k, (s.activeEntry k).action = action k)
    (list : List EntryIx) (forwarded : Bool) :
    s.actAll p f list forwarded =
      ((s.effects p f action list).withClassifier (s.classifier.countHits list)).relayIf p f
        (!forwarded && (firstForward action list).isSome) (firstForward action list) := by
  induction list generalizing s forwarded with
  | nil =>
    rw [Classifier.countHits_nil]
    cases forwarded <;> rfl
  | cons i rest ih =>
    have hg := s.classifier.countHits_generation [i]
    have hentry (k : EntryIx) (t : State) (ht : t.classifier = s.classifier.countHits [i]) :
        (t.activeEntry k).action = action k := by
      rw [State.activeEntry, ht, Classifier.countHits_entry]; exact ha k
    rw [State.actAll, ha i, State.countHit_eq]
    by_cases hf : action i = .forward
    · have hX : (s.withClassifier (s.classifier.countHits [i])).act p f i (!forwarded) .forward =
          (s.withClassifier (s.classifier.countHits [i])).relayIf p f (!forwarded) (some i) := rfl
      have hstart : s.effects p f action (i :: rest) = s.effects p f action rest := by
        rw [State.effects, List.foldl_cons, hf]; rfl
      have hfirst : firstForward action (i :: rest) = some i := by simp [firstForward, hf]
      rw [hf, hX, ih _ (fun k => hentry k _ (State.relayIf_classifier ..)), hstart, hfirst, State.effects_relayIf,
        State.relayIf_classifier, State.relayIf_withClassifier, s.effects_withClassifier p f hg]
      simp [Action.isForward, Classifier.countHits_cons, State.relayIf]
    · have hn : (action i).isForward = false := by simpa [Action.isForward_eq] using hf
      have hstart : s.effects p f action (i :: rest) = (s.act p f i false (action i)).effects p f action rest := rfl
      have hfirst : firstForward action (i :: rest) = firstForward action rest := by simp [firstForward, hf]
      rw [State.act_not_forward _ p f hn, s.act_withClassifier p f hg, ih _ (fun k => hentry k _ rfl), hn, hstart,
        hfirst, State.effects_withClassifier _ p f (by rw [hg, State.act_classifier])]
      simp [Classifier.countHits_cons]

/-! ## One classification (R58, R60, R62) -/

/-- The action of an entry of the active bank. -/
def State.action (i : EntryIx) : Action := (s.activeEntry i).action

/-- A frame needs a relay for a FORWARD in its list, or for the default disposition where its list is empty (R62, R64,
R67). -/
theorem State.needsRelay_eq (list : List EntryIx) :
    s.needsRelay p list =
      ((firstForward s.action list).isSome || (list.isEmpty && s.ports[p].config.disposition == .forward)) := by
  have hany (l : List EntryIx) :
      (l.any fun i => (s.activeEntry i).action.isForward) = (firstForward s.action l).isSome := by
    simp only [firstForward, List.isSome_find?, Action.isForward_eq]
    rfl
  cases list with
  | nil => rfl
  | cons i rest => exact (hany _).trans (by simp)

/-- The state once a classification that goes ahead has performed its list (R63, R64), before the frame leaves. -/
def State.performed (list : List EntryIx) : State :=
  ((s.effects p f s.action list).withClassifier (s.classifier.countHits list)).relayIf p f (s.needsRelay p list)
    (firstForward s.action list)

/-- Either the list acts, or the default disposition does. -/
theorem State.performed_eq (list : List EntryIx) :
    (if list.isEmpty then s.disposeByDefault p f else s.actAll p f list false) = s.performed p f list := by
  unfold State.performed
  cases list with
  | nil =>
    rw [s.needsRelay_eq, Classifier.countHits_nil]
    unfold State.disposeByDefault
    cases hd : s.ports[p].config.disposition <;> rfl
  | cons i rest =>
    rw [s.needsRelay_eq, State.actAll_eq s p f (fun _ => rfl)]
    simp
    rfl

/-- A classification that goes ahead: the list, then the head frame and the mark (R60, R63 to R65). -/
theorem State.classifyFrame_performed {list : List EntryIx} (hl : s.classifier.collected p f = list)
    (h : s.mustDefer p list = false) :
    s.classifyFrame p f = ((s.performed p f list).onPort p Port.dropHead).setDeferred p false := by
  subst hl
  simp only [State.classifyFrame, h, State.performed_eq]
  rfl

theorem State.classifyFrame_deferred (h : s.mustDefer p (s.classifier.collected p f) = true) :
    s.classifyFrame p f = s.setDeferred p true := by
  simp only [State.classifyFrame, h, if_true]

/-- CLASSIFY serves the head frame of the granted port (R58, R60). -/
theorem exec_classify {s : State} {p : PortIx} {f : Frame} {rest : List Frame} (hlow : s.rstnLow = false)
    (hg : s.granted = some p) (hi : s.ports[p].intake = f :: rest) :
    exec .classify s = .next ((s.moveGrant p).classifyFrame p f) := by
  have hi' : s.ports[p.val].intake = f :: rest := hi
  show Host.Outcome.next (s.whileRunning State.classify) = _
  rw [s.whileRunning_run _ hlow]
  simp only [State.classify, hg, Fin.getElem_fin, hi']

theorem State.mustDefer_iff (list : List EntryIx) :
    s.mustDefer p list = true ↔
      s.needsRelay p list = true ∧ 24 ≤ s.trunk.relays.length ∧ s.ports[p].config.overflow = .hold := by
  simp only [State.mustDefer, Bool.and_eq_true, beq_iff_eq, Trunk.relayFull_iff, and_assoc]

/-- Settles O39: a relay is needed, the lane is full and the policy is HOLD, which is when R62 defers. -/
theorem fullLaneDefersTheFrame : Obligations.FullLaneDefersTheFrame := by
  unfold Obligations.FullLaneDefersTheFrame
  intro s p f rest hlow hg hi hfull hpolicy hrelay
  have hneeds : s.needsRelay p (s.classifier.collected p f) = true := by
    rw [s.needsRelay_eq, Bool.or_eq_true]
    rcases hrelay with ⟨i, hi, ha⟩ | ⟨hempty, hd⟩
    · exact .inl (List.find?_isSome.2 ⟨i, hi, beq_iff_eq.2 ha⟩)
    · exact .inr (by simpa [hempty] using hd)
  have hdefer : (s.moveGrant p).mustDefer p (s.classifier.collected p f) = true :=
    (s.mustDefer_iff p _).2 ⟨hneeds, hfull, hpolicy⟩
  rw [exec_classify hlow hg hi, (s.moveGrant p).classifyFrame_deferred p f hdefer]
  rfl

end Sys2Proof.Machine
end

section
/-! PROOFS. A classification that goes ahead: what it touches, and what it does to each owner (O40, O41). -/

namespace Sys2Proof.Machine

variable (s : State) (p : PortIx) (f : Frame)

/-! ## A classification that goes ahead, in one state -/

theorem State.effects_trunk (action : EntryIx → Action) (list : List EntryIx) :
    (s.effects p f action list).trunk = s.trunk := by
  induction list generalizing s with
  | nil => rfl
  | cons i rest ih => exact (ih _).trans (s.act_trunk p f i _)

theorem State.relayIf_eq (due : Bool) (entry : Option EntryIx) :
    s.relayIf p f due entry =
      (s.withTrunk { s.trunk with relays :=
        if due = true ∧ s.trunk.relays.length < 24 then s.trunk.relays ++ [⟨p, f.tag, f.data, f.time, entry⟩]
        else s.trunk.relays }).onPort p fun pt =>
          if due = true ∧ 24 ≤ s.trunk.relays.length then pt.dropRelay else pt := by
  cases due with
  | false => simp [State.relayIf, State.onPort, update_unchanged]; rfl
  | true =>
    simp only [State.relayIf, State.forward, Trunk.relayFull_iff, if_true, true_and]
    by_cases hfull : 24 ≤ s.trunk.relays.length
    · simp only [hfull, Nat.not_lt.2 hfull, if_true, if_false]; rfl
    · simp only [hfull, Nat.lt_of_not_le hfull, if_true, if_false, State.onPort, update_unchanged]; rfl

/-- The state that a classification with this list leaves where it goes ahead: the effects on the owners, one hit for each
entry, one RELAY at most, the head frame gone, and the grant pointer and the mark moved on (R58, R60, R62 to R68). -/
def State.classified (list : List EntryIx) : State :=
  ((((s.effects p f s.action list).withClassifier ((s.moveGrant p).classifier.countHits list)).relayIf p f
    (s.needsRelay p list) (firstForward s.action list)).onPort p Port.dropHead).setDeferred p false

theorem exec_classify_classified {s : State} {p : PortIx} {f : Frame} {rest : List Frame} (hlow : s.rstnLow = false)
    (hg : s.granted = some p) (hi : s.ports[p].intake = f :: rest) {list : List EntryIx}
    (hl : s.classifier.collected p f = list)
    (hd : s.needsRelay p list = true → 24 ≤ s.trunk.relays.length → s.ports[p].config.overflow = .drop) :
    exec .classify s = .next (s.classified p f list) := by
  have hgo : (s.moveGrant p).mustDefer p list = false := by
    rw [← Bool.not_eq_true, State.mustDefer_iff]
    rintro ⟨hneeds, hfull, hhold⟩
    exact absurd ((hd hneeds hfull).symm.trans hhold) (by decide)
  have heffects : (s.moveGrant p).effects p f s.action list =
      (s.effects p f s.action list).withClassifier (s.moveGrant p).classifier :=
    s.effects_withClassifier p f (c := (s.moveGrant p).classifier) rfl s.action list
  rw [exec_classify hlow hg hi, State.classifyFrame_performed (s.moveGrant p) p f hl hgo, State.performed,
    show (s.moveGrant p).action = s.action from rfl, heffects]
  rfl

theorem State.classified_classifier (list : List EntryIx) :
    (s.classified p f list).classifier = { (s.moveGrant p).classifier.countHits list with
      deferred := update s.classifier.deferred p fun _ => false } := by
  rw [State.classified, State.setDeferred_classifier, State.onPort_classifier, State.relayIf_classifier,
    State.withClassifier_classifier]
  exact congrArg (fun d => { (s.moveGrant p).classifier.countHits list with deferred := update d p fun _ => false })
    (Classifier.withBank_deferred ..)

theorem State.classified_trunk (list : List EntryIx) :
    (s.classified p f list).trunk = { s.trunk with relays :=
      if (s.needsRelay p list) = true ∧ s.trunk.relays.length < 24 then
        s.trunk.relays ++ [⟨p, f.tag, f.data, f.time, (firstForward s.action list)⟩]
      else s.trunk.relays } := by
  rw [State.classified, State.relayIf_eq, ← s.effects_trunk p f s.action list]
  rfl

theorem State.classified_ports (list : List EntryIx) :
    (s.classified p f list).ports = update (s.effects p f s.action list).ports p fun pt =>
      Port.dropHead (if s.needsRelay p list = true ∧ 24 ≤ s.trunk.relays.length then pt.dropRelay else pt) := by
  rw [State.classified, State.relayIf_eq, ← s.effects_trunk p f s.action list]
  exact update_update _ _ _ _

/-- Beside the classifier, the trunk unit and the port, the effects on the owners are all that has changed. -/
theorem State.classified_eq (list : List EntryIx) :
    s.classified p f list =
      { s.effects p f s.action list with
        classifier := (s.classified p f list).classifier
        trunk := (s.classified p f list).trunk
        ports := (s.classified p f list).ports } := by
  rw [State.classified, State.relayIf_eq]
  rfl

/-! ## What no action but FORWARD touches -/

/-- The two arbiters differ in the pending records of their levels at most. -/
structure Arbiter.SameButPending (a b : Arbiter) : Prop where
  eq : b = { a with levels := b.levels }
  levels : ∀ l : LevelIx, b.levels[l].masked = a.levels[l].masked ∧ b.levels[l].autoDone = a.levels[l].autoDone

theorem Arbiter.SameButPending.refl (a : Arbiter) : a.SameButPending a := ⟨rfl, fun _ => ⟨rfl, rfl⟩⟩

theorem Arbiter.SameButPending.trans {a b c : Arbiter} (h : a.SameButPending b) (h' : b.SameButPending c) :
    a.SameButPending c where
  eq := by rw [h'.eq, h.eq]
  levels l := ⟨(h'.levels l).1.trans (h.levels l).1, (h'.levels l).2.trans (h.levels l).2⟩

theorem Arbiter.SameButPending.update (a : Arbiter) (l : LevelIx) (record : Level → Option Record) :
    a.SameButPending { a with levels := update a.levels l fun x => { x with pending := record x } } where
  eq := rfl
  levels k := by
    by_cases hk : l = k
    · subst hk; simp
    · have hv : l.val ≠ k.val := fun e => hk (Fin.ext e)
      simp [update_getElem_other _ _ _ _ _ hv]

theorem Arbiter.SameButPending.assertedAt (a : Arbiter) (l : Option LevelIx) (source : Source) (data : Byte)
    (time : Word) : a.SameButPending (a.assertedAt l source data time) := by
  cases l with
  | none => exact .refl a
  | some l => exact .update a l _

theorem Arbiter.SameButPending.assertedAll (a : Arbiter) (l : Option LevelIx) (source : Source) (time : Word)
    (crossed : List Byte) :
    a.SameButPending (crossed.foldl (fun b data => b.assertedAt l source data time) a) := by
  induction crossed generalizing a with
  | nil => exact .refl a
  | cons data rest ih => exact (SameButPending.assertedAt a l source data time).trans (ih _)

theorem Port.raise_relayDrops (pt : Port) (r : Reason) :
    (pt.raise r).stats.relayDrops = pt.stats.relayDrops := by
  unfold Port.raise Port.setReason Port.withLine Port.countHeldOff
  split
  · rfl
  · dsimp only
    split_ifs <;> rfl
  · rfl
  · split_ifs <;> rfl

theorem Port.handHead_frame (pt : Port) :
    pt.handHead.intake = pt.intake ∧ pt.handHead.stats.relayDrops = pt.stats.relayDrops := by
  have htest (qt : Port) :
      qt.testPreempt.intake = qt.intake ∧ qt.testPreempt.stats.relayDrops = qt.stats.relayDrops := by
    obtain ⟨-, -, -, -, -, hintake, -⟩ := qt.raise_frame .preempt
    unfold Port.testPreempt
    split
    · exact ⟨rfl, rfl⟩
    · split_ifs
      · exact ⟨hintake, qt.raise_relayDrops _⟩
      · exact ⟨rfl, rfl⟩
  unfold Port.handHead
  split
  · split_ifs
    · exact htest _
    · exact ⟨rfl, rfl⟩
  · exact ⟨rfl, rfl⟩

/-- An action leaves the intake and the count of relays dropped alone. -/
theorem Action.onPort_frame (a : Action) (pt : Port) :
    (a.onPort pt).intake = pt.intake ∧ (a.onPort pt).stats.relayDrops = pt.stats.relayDrops := by
  cases a with
  | answer tag data =>
    unfold Action.onPort Port.answer
    dsimp only
    split_ifs
    · exact Port.handHead_frame { pt with queue := pt.queue ++ [⟨tag, data, none⟩] }
    · exact ⟨rfl, rfl⟩
  | _ => exact ⟨rfl, rfl⟩

/-- The part `t` has been reached from `s` by actions on frames of port `p` that relay nothing. -/
structure State.ActedFrom (s t : State) (p : PortIx) : Prop where
  arbiter : s.arbiter.SameButPending t.arbiter
  intake : t.ports[p].intake = s.ports[p].intake
  relayDrops : t.ports[p].stats.relayDrops = s.ports[p].stats.relayDrops
  otherPorts : ∀ q : PortIx, q ≠ p → t.ports[q] = s.ports[q]
  patterns : t.patterns = s.patterns
  memory : t.memory = s.memory
  timer : t.timer = s.timer
  rstnLow : t.rstnLow = s.rstnLow
  freeReads : t.freeReads = s.freeReads
  pending : t.pending = s.pending

theorem State.ActedFrom.refl : s.ActedFrom s p := ⟨.refl _, rfl, rfl, fun _ _ => rfl, rfl, rfl, rfl, rfl, rfl, rfl⟩

theorem State.ActedFrom.trans {s t u : State} {p : PortIx} (h : s.ActedFrom t p) (h' : t.ActedFrom u p) :
    s.ActedFrom u p where
  arbiter := h.arbiter.trans h'.arbiter
  intake := h'.intake.trans h.intake
  relayDrops := h'.relayDrops.trans h.relayDrops
  otherPorts q hq := (h'.otherPorts q hq).trans (h.otherPorts q hq)
  patterns := h'.patterns.trans h.patterns
  memory := h'.memory.trans h.memory
  timer := h'.timer.trans h.timer
  rstnLow := h'.rstnLow.trans h.rstnLow
  freeReads := h'.freeReads.trans h.freeReads
  pending := h'.pending.trans h.pending

theorem State.acted_arbiter (i : EntryIx) (a : Action) : s.arbiter.SameButPending (s.acted p f i a).arbiter := by
  cases a with
  | assert l => exact .assertedAt s.arbiter (some l) _ _ _
  | withdraw l => exact .update s.arbiter l _
  | tally k amount => exact .assertedAll s.arbiter _ _ _ _
  | _ => exact .refl _

theorem State.ActedFrom.act (i : EntryIx) (a : Action) : s.ActedFrom (s.act p f i false a) p := by
  obtain ⟨hintake, hdrops⟩ := a.onPort_frame s.ports[p]
  rw [State.act_eq]
  refine ⟨s.acted_arbiter p f i a, ?_, ?_, fun q hq => update_other s.ports p a.onPort hq, ?_, ?_, ?_, ?_, ?_,
    ?_⟩
  · simpa using hintake
  · simpa using hdrops
  all_goals cases a <;> rfl

theorem State.ActedFrom.effects (action : EntryIx → Action) (list : List EntryIx) :
    s.ActedFrom (s.effects p f action list) p := by
  induction list generalizing s with
  | nil => exact .refl s p
  | cons i rest ih => exact (ActedFrom.act s p f i (action i)).trans (ih _)

/-! ## The head frame that leaves (R57, R65) -/

/-- The port keeps its counts of relays dropped, and loses its head frame. -/
theorem Port.dropHead_frame (pt : Port) :
    pt.dropHead.intake = pt.intake.tail ∧ pt.dropHead.stats.relayDrops = pt.stats.relayDrops := by
  unfold Port.dropHead Port.fillChanged
  split_ifs
  · exact ⟨rfl, rfl⟩
  · obtain ⟨-, -, -, -, -, hintake, -⟩ := Port.raise_frame { pt with intake := pt.intake.tail } .backpressure
    exact ⟨hintake, Port.raise_relayDrops _ _⟩
  · exact ⟨rfl, rfl⟩
  · exact ⟨rfl, rfl⟩

/-- The bank in force has counted one hit in each entry of the list and in no other (R56, R63). -/
theorem State.classified_bank_active {list : List EntryIx} (hl : list.Nodup) (i : EntryIx) :
    ((s.classified p f list).classifier.bank s.classifier.active)[i] =
      ⟨(s.classifier.bank s.classifier.active)[i].entry,
        if i ∈ list then satInc (s.classifier.bank s.classifier.active)[i].hits
        else (s.classifier.bank s.classifier.active)[i].hits⟩ := by
  rw [State.classified_classifier]
  refine Eq.trans ?_ (bankHits_getElem (s.classifier.bank s.classifier.active) hl i)
  exact congrArg (·[i]) (Classifier.withBank_bank_same (s.moveGrant p).classifier s.classifier.active _)

theorem State.classified_bank_other (list : List EntryIx) :
    (s.classified p f list).classifier.bank s.classifier.active.other =
      s.classifier.bank s.classifier.active.other := by
  rw [State.classified_classifier]
  exact Classifier.withBank_bank_other (s.moveGrant p).classifier s.classifier.active _

/-- Of its own port a classification takes the head frame, and counts a relay without room (R65, R68). -/
theorem State.classified_port (list : List EntryIx) :
    (s.classified p f list).ports[p].intake = s.ports[p].intake.tail ∧
    (s.classified p f list).ports[p].stats.relayDrops =
      if s.needsRelay p list = true ∧ 24 ≤ s.trunk.relays.length then satInc s.ports[p].stats.relayDrops
      else s.ports[p].stats.relayDrops := by
  have hacted := State.ActedFrom.effects s p f s.action list
  rw [← hacted.intake, ← hacted.relayDrops, State.classified_ports, Fin.getElem_fin, update_getElem_self]
  obtain ⟨hintake, hdrops⟩ := Port.dropHead_frame
    (if s.needsRelay p list = true ∧ 24 ≤ s.trunk.relays.length then (s.effects p f s.action list).ports[p].dropRelay
      else (s.effects p f s.action list).ports[p])
  refine ⟨hintake.trans ?_, hdrops.trans ?_⟩ <;> split_ifs <;> rfl

/-- Settles O40: the effects touch levels, tallies, outputs and the port at most, and the rest is said part by part. -/
theorem classificationActsOnce : Obligations.ClassificationActsOnce := by
  unfold Obligations.ClassificationActsOnce
  intro s p f rest hlow hg hi
  obtain ⟨list, hl⟩ : ∃ list, s.classifier.collected p f = list := ⟨_, rfl⟩
  have hwalk : list.Nodup :=
    hl ▸ ((List.pairwise_lt_finRange 48).sublist (collect_sublist ..)).imp fun h => ne_of_lt h
  have hneeds := s.needsRelay_eq p list
  have hclassifier := s.classified_classifier p f list
  have htrunk := s.classified_trunk p f list
  obtain ⟨hintake, hdrops⟩ := s.classified_port p f list
  have hacted := State.ActedFrom.effects s p f s.action list
  rw [hneeds] at htrunk hdrops
  rw [hl]
  dsimp only
  intro hd
  refine ⟨s.classified p f list, exec_classify_classified hlow hg hi hl (by rw [hneeds]; exact hd),
    by rw [hintake, hi]; rfl, by rw [hclassifier], ?_, ?_, ?_, s.classified_bank_other p f list,
    s.classified_bank_active p f hwalk, htrunk, hdrops, fun q hq => ?_, ?_⟩
  · rw [hclassifier]; exact Classifier.withBank_grant ..
  · rw [hclassifier]; exact Classifier.withBank_active ..
  · rw [hclassifier]; exact Classifier.withBank_generation ..
  · rw [State.classified_ports, update_other _ _ _ hq, hacted.otherPorts q hq]
  · rw [State.classified_eq]
    exact ⟨hacted.arbiter.eq, hacted.arbiter.levels, hacted.patterns, hacted.memory, hacted.timer, hacted.rstnLow,
      hacted.freeReads⟩

/-! ## The actions of a list in their owners' own terms (R63, R66, R69 to R71) -/

/-- What an ANSWER, and the head frame that leaves, rely on of a port that is in its rules. -/
structure Port.Settled (pt : Port) : Prop where
  ready : pt.presence = .present → (pt.line.ready = none ↔ pt.queue = [])
  held : pt.line.reasons.any = false ∨ pt.line.beforeCommit = false
  fill : pt.line.reasons.backpressure = true ↔ 3 ≤ pt.intake.length

/-- A PRESENT port's line has a ready frame exactly where the queue has a head; a reason stands in an inbound frame from
its commit point on only (R116, R146). -/
theorem Port.settled_of_inv {pt : Port} (h : PortInv pt) : pt.Settled := by
  obtain ⟨-, -, -, -, -, hfill, -, -, -, -, -, -, -, -, -, -, -, -, -, -, -, hready, hline⟩ := h
  refine ⟨fun hp => ?_, ?_, hfill⟩
  · unfold Port.readyGood at hready
    cases hr : pt.line.ready with
    | none => simpa [hr] using hready
    | some r =>
      cases hq : pt.queue with
      | nil => cases hb : r.probe <;> simp [hr, hq, hb, hp] at hready
      | cons e rest => simp
  · unfold Line.good at hline
    unfold Line.beforeCommit
    cases ha : pt.line.activity with
    | inbound bits low gone =>
      simp only [ha, Bool.and_eq_true, Bool.or_eq_true, Bool.not_eq_true', decide_eq_true_eq] at hline
      obtain ⟨-, hcommit⟩ := hline
      refine hcommit.imp_right fun hb => ?_
      simp [Nat.not_lt.2 hb]
    | _ => exact .inr rfl

/-- The PREEMPT test changes neither the queue's hand-over nor the intake. -/
theorem Port.Settled.preempted {pt : Port} (h : pt.Settled) : pt.preempted.Settled := by
  unfold Port.preempted
  split_ifs
  · exact ⟨h.ready, .inr rfl, h.fill⟩
  · exact h

theorem Port.Settled.answers {pt : Port} (h : pt.Settled) (tag : Tag) (data : Byte) : (pt.answers tag data).Settled := by
  unfold Port.answers
  split_ifs with hroom hempty
  · refine Port.Settled.preempted ⟨fun _ => ?_, h.held, h.fill⟩
    simp
  · refine ⟨fun hp => ?_, h.held, h.fill⟩
    simpa [h.ready hp] using hempty
  · exact ⟨h.ready, h.held, h.fill⟩

theorem Port.Settled.dropRelay {pt : Port} (h : pt.Settled) : pt.dropRelay.Settled := ⟨h.ready, h.held, h.fill⟩

theorem State.act_acted_of_settled (h : s.ports[p].Settled) (i : EntryIx) (a : Action) :
    s.act p f i false a = s.acted p f i a := by
  by_cases ha : a = .forward
  · subst ha; rfl
  · exact s.act_acted p f i false a ha h.ready h.held

theorem State.acted_settled (h : s.ports[p].Settled) (i : EntryIx) (a : Action) :
    (s.acted p f i a).ports[p].Settled := by
  cases a with
  | answer tag data => simpa [State.acted] using h.answers tag data
  | _ => exact h

/-- The effects of a list, each entry's said by its owner's rule. -/
theorem State.effects_eq_acted (h : s.ports[p].Settled) (action : EntryIx → Action) (list : List EntryIx) :
    s.effects p f action list = list.foldl (fun t i => t.acted p f i (action i)) s ∧
    (s.effects p f action list).ports[p].Settled := by
  induction list generalizing s with
  | nil => exact ⟨rfl, h⟩
  | cons i rest ih =>
    have hstart : s.effects p f action (i :: rest) = (s.acted p f i (action i)).effects p f action rest := by
      rw [← s.act_acted_of_settled p f h i (action i)]; rfl
    rw [hstart]
    exact ih _ (s.acted_settled p f h i (action i))

theorem Port.headGone_stats (pt : Port) : pt.headGone.stats = pt.stats := by
  unfold Port.headGone
  split_ifs <;> rfl

theorem Port.headGone_dropRelay (pt : Port) : pt.dropRelay.headGone = pt.headGone.dropRelay := by
  unfold Port.headGone
  by_cases h : pt.line.reasons.backpressure = true ∧ pt.intake.length ≤ 3
  · rw [if_pos h, if_pos (show pt.dropRelay.line.reasons.backpressure = true ∧ pt.dropRelay.intake.length ≤ 3 from h)]
    rfl
  · rw [if_neg h,
      if_neg (show ¬ (pt.dropRelay.line.reasons.backpressure = true ∧ pt.dropRelay.intake.length ≤ 3) from h)]
    rfl

/-- The head frame leaves a port that may have counted a relay dropped. -/
theorem Port.dropHead_counted {pt : Port} (h : pt.Settled) (full : Prop) [Decidable full] :
    Port.dropHead (if full then pt.dropRelay else pt) =
      { pt.headGone with stats :=
        if full then { pt.stats with relayDrops := satInc pt.stats.relayDrops } else pt.stats } := by
  rw [← pt.headGone_stats]
  by_cases hfull : full
  · simp only [if_pos hfull]
    rw [pt.dropRelay.dropHead_headGone h.dropRelay.fill, Port.headGone_dropRelay]
    rfl
  · simp only [if_neg hfull]
    exact pt.dropHead_headGone h.fill

/-- Settles O41: in a port that is in its rules every effect is its owner's, and the head frame leaves as R65 says. -/
theorem actionsReachTheirOwners : Obligations.ActionsReachTheirOwners := by
  unfold Obligations.ActionsReachTheirOwners
  intro s p f rest hlow hg hi hinv
  obtain ⟨list, hl⟩ : ∃ list, s.classifier.collected p f = list := ⟨_, rfl⟩
  have hneeds : s.needsRelay p list =
      ((list.any fun i => s.action i == .forward) ||
        (list.isEmpty && s.ports[p].config.disposition == .forward)) := by
    rw [s.needsRelay_eq, firstForward, List.isSome_find?]
  obtain ⟨hacted, hsettled⟩ := s.effects_eq_acted p f (Port.settled_of_inv hinv) s.action list
  rw [hl]
  dsimp only
  intro hd
  have howners : (s.classified p f list).arbiter = (s.effects p f s.action list).arbiter ∧
      (s.classified p f list).tallies = (s.effects p f s.action list).tallies ∧
      (s.classified p f list).outputs = (s.effects p f s.action list).outputs := by
    rw [State.classified_eq]
    exact ⟨rfl, rfl, rfl⟩
  have hports : (s.classified p f list).ports = _ := s.classified_ports p f list
  rw [hacted] at hsettled howners hports
  obtain ⟨harbiter, htallies, houtputs⟩ := howners
  refine ⟨s.classified p f list, exec_classify_classified hlow hg hi hl (by rw [hneeds]; exact hd), harbiter, htallies,
    houtputs, ?_⟩
  rw [hports, hneeds]
  exact update_congr _ p (Port.dropHead_counted hsettled _)

end Sys2Proof.Machine
end

section
/-! PROOFS. O2: every shared operation, every command and every row leaves the queue of waiting commands alone. -/

namespace Sys2Proof.Machine

variable (s : State) (p : PortIx)

/-! ## The lanes, the levels and the arbiter -/

@[simp] theorem State.alert_pending (content : AlertContent) : (s.alert content).pending = s.pending := by
  unfold State.alert
  split <;> rfl

@[simp] theorem State.queueResults_pending (outcome : SendOutcome) (entries : List TxEntry) (attempts : Nat) :
    (s.queueResults p outcome entries attempts).pending = s.pending := by
  rw [State.queueResults_eq]; rfl

@[simp] theorem State.queueResult_pending (outcome : SendOutcome) (e : TxEntry) (attempts : Nat) :
    (s.queueResult p outcome e attempts).pending = s.pending := by
  rw [State.queueResult_eq]; rfl

@[simp] theorem State.assertLevel_pending (l : LevelIx) (source : Source) (data : Byte) (time : Word) :
    (s.assertLevel l source data time).pending = s.pending := rfl

@[simp] theorem State.assertOptional_pending (l : Option LevelIx) (source : Source) (data : Byte) :
    (s.assertOptional l source data).pending = s.pending := by
  rw [State.assertOptional_eq]; rfl

@[simp] theorem State.withdrawLevel_pending (l : LevelIx) : (s.withdrawLevel l).pending = s.pending := rfl

@[simp] theorem State.makeOffer_pending : s.makeOffer.pending = s.pending := by
  obtain ⟨-, -, -, -, -, -, -, -, -, hpending⟩ := s.makeOffer_frame
  exact hpending

theorem State.whileRunning_pending {f : State → State} (hf : ∀ t, (f t).pending = t.pending) :
    (s.whileRunning f).pending = s.pending := by
  unfold State.whileRunning
  split
  · rfl
  · exact hf s

@[simp] theorem State.take_pending (number : Byte) : (s.take number).pending = s.pending := by
  unfold State.take
  split
  · split
    · rfl
    · split <;> rfl
  · rfl

@[simp] theorem State.done_pending (value : Byte) : (s.done value).pending = s.pending := by
  unfold State.done
  split
  · split
    · rfl
    · exact s.alert_pending _
  · split
    · rfl
    · exact s.alert_pending _

@[simp] theorem State.recall_pending (value : Byte) : (s.recall value).pending = s.pending := by
  unfold State.recall
  split
  · split
    · rfl
    · exact s.alert_pending _
  · rfl

@[simp] theorem State.lapse_pending (l : LevelIx) : (s.lapse l).pending = s.pending := by
  unfold State.lapse
  dsimp only
  split
  · exact State.alert_pending _ _
  · rfl

/-! ## Ports (chapters 6 and 7) -/

@[simp] theorem State.emptyQueue_pending (outcome : SendOutcome) : (s.emptyQueue p outcome).pending = s.pending := by
  rw [State.emptyQueue_eq]

@[simp] theorem State.enterPresent_pending : (s.enterPresent p).pending = s.pending := by
  simp [State.enterPresent]

@[simp] theorem State.enterFaulted_pending (code : Byte) : (s.enterFaulted p code).pending = s.pending := by
  simp [State.enterFaulted]

@[simp] theorem State.goSilent_pending : (s.goSilent p).pending = s.pending := by
  rw [State.goSilent_eq]

@[simp] theorem State.disablePort_pending : (s.disablePort p).pending = s.pending := by
  simp [State.disablePort]

@[simp] theorem State.flushTx_pending : (s.flushTx p).pending = s.pending := by
  rw [State.flushTx_eq]

@[simp] theorem State.receivedFrame_pending (tag : Tag) (data : Byte) :
    (s.receivedFrame p tag data).pending = s.pending := by
  unfold State.receivedFrame
  dsimp only
  split
  · split <;> rfl
  · exact State.enterPresent_pending _ p
  · rfl
  · rfl

@[simp] theorem State.lineError_pending : (s.lineError p).pending = s.pending := by
  unfold State.lineError
  dsimp only
  split
  · rfl
  · rfl
  · split
    · exact State.enterFaulted_pending _ p _
    · rfl

@[simp] theorem State.deliverHead_pending (e : TxEntry) : (s.deliverHead p e).pending = s.pending := by
  simp [State.deliverHead]

@[simp] theorem State.failHead_pending (outcome : SendOutcome) (e : TxEntry) :
    (s.failHead p outcome e).pending = s.pending := by
  unfold State.failHead
  dsimp only
  split <;> simp

@[simp] theorem State.headOutcome_pending (result : AttemptResult) : (s.headOutcome p result).pending = s.pending := by
  unfold State.headOutcome
  split
  · rfl
  · split
    · simp
    · split <;> simp
    · split <;> simp

@[simp] theorem State.attemptEnds_pending (result : AttemptResult) : (s.attemptEnds p result).pending = s.pending := by
  unfold State.attemptEnds
  dsimp only
  split
  · rfl
  · split
    · split <;> simp
    · simp

@[simp] theorem State.inboundEnds_pending : (s.inboundEnds p).pending = s.pending := by
  unfold State.inboundEnds
  dsimp only
  split
  · split
    · rfl
    · split
      · rfl
      · split <;> simp
  · rfl

@[simp] theorem State.inboundBreaks_pending : (s.inboundBreaks p).pending = s.pending := by
  unfold State.inboundBreaks
  dsimp only
  split
  · split
    · split <;> simp
    · rfl
  · rfl

@[simp] theorem State.attemptSlotEnds_pending : (s.attemptSlotEnds p).pending = s.pending := by
  unfold State.attemptSlotEnds
  split
  · split <;> simp
  · rfl

@[simp] theorem State.attemptTimesOut_pending : (s.attemptTimesOut p).pending = s.pending := by
  unfold State.attemptTimesOut
  split
  · simp
  · split <;> simp
  · rfl

/-! ## The classifier and the signals (chapters 3 and 5) -/

/-- Deferred or not, a classification leaves the queue alone. -/
@[simp] theorem State.classifyFrame_pending (f : Frame) : (s.classifyFrame p f).pending = s.pending := by
  cases h : s.mustDefer p (s.classifier.collected p f) with
  | true => rw [s.classifyFrame_deferred p f h]; rfl
  | false =>
    rw [s.classifyFrame_performed p f rfl h, State.performed, State.relayIf_eq]
    exact (State.ActedFrom.effects s p f s.action _).pending

@[simp] theorem State.classify_pending : s.classify.pending = s.pending := by
  unfold State.classify
  split
  · rfl
  · split
    · rfl
    · exact State.classifyFrame_pending _ _ _

@[simp] theorem State.phaseEnds_pending (o : OutputIx) : (s.phaseEnds o).pending = s.pending := by
  unfold State.phaseEnds
  split
  · rfl
  · dsimp only
    split <;> simp

/-! ## What the commands carry out (Table 9-4) -/

/-- A request whose checks fail changes nothing (R185). -/
theorem inRange_pending {α : Type} {x : Option α} {k : α → Executed}
    (hk : ∀ a, x = some a → (k a).state.pending = s.pending) : (inRange s x k).state.pending = s.pending := by
  cases x with
  | none => rfl
  | some a => exact hk a rfl

theorem cmdSend_pending (sequence port tag data confirm : Byte) :
    (cmdSend sequence port tag data confirm s).state.pending = s.pending := by
  refine inRange_pending s fun p _ => inRange_pending s fun t _ => inRange_pending s fun confirmed _ => ?_
  split_ifs <;> rfl

theorem resetOf_pending {scope : Byte} {f : State → State} (h : resetOf scope = some f) :
    (f s).pending = s.pending := by
  unfold resetOf at h
  split_ifs at h <;> cases h <;> rfl

theorem controlOf_pending {action : Byte} {f : PortIx → State → Executed} (h : controlOf action = some f) :
    (f p s).state.pending = s.pending := by
  unfold controlOf at h
  split_ifs at h <;> cases h
  · unfold controlEnable; split <;> rfl
  · unfold controlDisable
    split
    · rfl
    · exact s.disablePort_pending p
  · unfold controlProbeNow; split <;> rfl
  · exact s.flushTx_pending p

theorem cmdReadPort_pending (arguments : List Byte) : (cmdReadPort arguments s).state.pending = s.pending := by
  unfold cmdReadPort
  split
  · refine inRange_pending s fun p _ => inRange_pending s fun clear _ => ?_
    dsimp only
    split_ifs <;> cases clear <;> rfl
  · rfl

/-- Whatever a command carries out leaves the queue alone: its checks first, then its effect. -/
theorem runCommand_pending (c : Command) (arguments : List Byte) :
    (runCommand c arguments s).state.pending = s.pending := by
  cases c <;> unfold runCommand
  case identify | readArbiter | clearShadow | copyActive | commitSelectors => cases arguments <;> rfl
  case readPort => exact cmdReadPort_pending s arguments
  case setLink | setMasks | assertLevel | withdrawLevel | readLevel | stopSignal | readSignal =>
    dsimp only [cmdSetLink, cmdSetMasks, cmdAssertLevel, cmdWithdrawLevel, cmdReadLevel, cmdStopSignal, cmdReadSignal]
    split
    · exact inRange_pending s fun _ _ => rfl
    · rfl
  case reset =>
    dsimp only [cmdReset]
    split
    · exact inRange_pending s fun f hf => resetOf_pending s hf
    · rfl
  case loadSelector | configureTally | loadPattern | configurePort =>
    dsimp only [cmdLoadSelector, cmdConfigureTally, cmdLoadPattern, cmdConfigurePort]
    split
    · exact inRange_pending s fun _ _ => inRange_pending s fun _ _ => rfl
    · rfl
  case configureLevel | configureBand =>
    dsimp only [cmdConfigureLevel, cmdConfigureBand]
    split
    · exact inRange_pending s fun _ _ => inRange_pending s fun _ _ => inRange_pending s fun _ _ => rfl
    · rfl
  case getStatus =>
    dsimp only [cmdGetStatus]
    split
    · exact inRange_pending s fun clear _ => by cases clear <;> rfl
    · rfl
  case readTally =>
    dsimp only [cmdReadTally]
    split
    · exact inRange_pending s fun _ _ => inRange_pending s fun clear _ => by cases clear <;> rfl
    · rfl
  case readSelector =>
    dsimp only [cmdReadSelector]
    split
    · exact inRange_pending s fun _ _ => inRange_pending s fun _ _ => inRange_pending s fun clear _ => by
        cases clear <;> rfl
    · rfl
  case setArbiter =>
    dsimp only [cmdSetArbiter]
    split
    · refine inRange_pending s fun _ _ => ?_
      split <;> rfl
    · rfl
  case startSignal =>
    dsimp only [cmdStartSignal]
    split
    · refine inRange_pending s fun _ _ => inRange_pending s fun _ _ => ?_
      split <;> rfl
    · rfl
  case portControl =>
    dsimp only [cmdPortControl]
    split
    · exact inRange_pending s fun p _ => inRange_pending s fun _ hf => controlOf_pending s p hf
    · rfl

theorem cmdAny_pending (code : Byte) (arguments : List Byte) :
    (cmdAny code arguments s).state.pending = s.pending := by
  unfold cmdAny
  split
  · rfl
  · exact runCommand_pending s _ arguments

/-! ## Messages and requests (R163, R178) -/

theorem State.sequenced_pending (sequence code : Byte) (toSend : Bool) {body : State → Executed}
    (hb : (body s).state.pending = s.pending) : (s.sequenced sequence code toSend body).pending = s.pending := by
  unfold State.sequenced
  split
  · split <;> rfl
  · split
    · exact hb
    · rfl

theorem State.onMessage_pending {owner : State → State} (ho : ∀ t, (owner t).pending = t.pending) :
    (s.onMessage owner).pending = s.pending := by
  by_cases h : s.Hears
  · rw [s.onMessage_heard h, ho, State.heard_pending]
  · rw [s.onMessage_deaf h]

theorem State.command_pending (c : Command) (sequence : Byte) (arguments : List Byte) :
    (s.command c sequence (runCommand c arguments)).pending = s.pending :=
  s.onMessage_pending fun t => t.sequenced_pending sequence _ false (runCommand_pending t c arguments)

@[simp] theorem State.alertMalformed_pending (m : TrunkMessage) : (s.alertMalformed m).pending = s.pending :=
  s.alert_pending _

theorem State.dispatch_pending (m : TrunkMessage) : (s.dispatch m).pending = s.pending := by
  unfold State.dispatch
  split
  · split <;> simp
  split
  · split <;> simp
  split
  · split <;> simp
  split
  · split
    · exact s.sequenced_pending _ _ _ (cmdSend_pending s ..)
    · simp
  split
  · unfold State.handCommand
    split
    · exact s.sequenced_pending _ _ _ (cmdAny_pending s ..)
    · simp
  · simp

/-! ## Characters, transmissions and breaks (chapter 8) -/

theorem State.judge_pending (bytes : List Byte) (damaged : Bool) : (s.judge bytes damaged).pending = s.pending := by
  unfold State.judge
  split
  · rfl
  · split
    · split
      · exact s.onMessage_pending fun t => t.dispatch_pending _
      · rfl
    · rfl

theorem State.collectByte_pending (collected : List Byte) (damaged : Bool) (value : Byte) :
    (s.collectByte collected damaged value).pending = s.pending := by
  unfold State.collectByte
  split
  · split <;> rfl
  · split
    · rfl
    · exact s.judge_pending _ _

theorem State.receiveCharacter_pending (value : Byte) (framingError : Bool) :
    (s.receiveCharacter value framingError).pending = s.pending := by
  unfold State.receiveCharacter State.takeCharacter
  split
  · rfl
  · split
    · split <;> rfl
    · exact State.collectByte_pending _ _ _ _
    · rfl

theorem State.beginTransmission_pending : s.beginTransmission.pending = s.pending := by
  have hcontrol (e : ControlEntry) (rest : List ControlEntry) : (s.beginControl e rest).pending = s.pending := by
    rw [State.beginControl_eq]
    split
    · rfl
    · exact State.makeOffer_pending _
  unfold State.beginTransmission
  split
  · exact hcontrol _ _
  · rfl
  · split
    · exact hcontrol _ _
    · rfl
  · rfl

theorem State.endTransmission_pending : s.endTransmission.pending = s.pending := by
  unfold State.endTransmission
  split <;> rfl

/-! ## The rows -/

/-- No row stops the part: each answers a next state. -/
theorem exec_answers (i : Instr) : ∃ t, exec i s = .next t := by
  cases i <;> exact ⟨_, rfl⟩

/-- Each row leaves the queue as its operation or its command does. -/
theorem exec_pending {s t : State} {i : Instr} (h : exec i s = .next t) : t.pending = s.pending := by
  cases i <;> cases h
  case coldReset => rfl
  case rstnReleased =>
    split
    · exact State.alert_pending _ _
    · rfl
  case breakDetected => split <;> rfl
  case breakEnd =>
    refine s.whileRunning_pending fun t => ?_
    split
    · exact State.alert_pending _ _
    · rfl
  case lengthError | checkError => split <;> rfl
  case gapAbort => exact s.whileRunning_pending fun t => by split <;> rfl
  case characterComplete => exact s.whileRunning_pending fun t => t.receiveCharacter_pending _ _
  case malformed => exact s.onMessage_pending fun t => t.dispatch_pending _
  case take => exact s.onMessage_pending fun t => t.take_pending _
  case done | doneCurrent => exact s.onMessage_pending fun t => t.done_pending _
  case send => exact s.onMessage_pending fun t => t.sequenced_pending _ _ _ (cmdSend_pending t ..)
  case commandUnknown => exact s.onMessage_pending fun t => t.sequenced_pending _ _ _ (cmdAny_pending t ..)
  case offer => exact s.whileRunning_pending State.makeOffer_pending
  case takeTimerExpiry =>
    refine s.whileRunning_pending fun t => ?_
    split
    · exact t.lapse_pending _
    · rfl
  case classify => exact s.whileRunning_pending State.classify_pending
  case phaseEnd o => exact s.whileRunning_pending fun t => t.phaseEnds_pending o
  case inboundFrame port => exact s.whileRunning_pending fun t => t.inboundEnds_pending port
  case frameBroken port => exact s.whileRunning_pending fun t => t.inboundBreaks_pending port
  case attemptOutcome port => exact s.whileRunning_pending fun t => t.attemptSlotEnds_pending port
  case noResponse port => exact s.whileRunning_pending fun t => t.attemptTimesOut_pending port
  case silenceExpiry port =>
    refine s.whileRunning_pending fun t => ?_
    split
    · exact t.goSilent_pending port
    · rfl
  case transmitBegin => exact s.whileRunning_pending State.beginTransmission_pending
  case transmitEnd => exact s.endTransmission_pending
  case partTimerTick | inboundFrameBegins | clockGiven | probeTimerExpiry | probe | requestToSend | startBit | cutEnd =>
    exact s.whileRunning_pending fun t => rfl
  -- RECALL comes first of the rows that are left; it is not named here because Mathlib has a keyword of that name.
  next value => exact s.onMessage_pending fun t => t.recall_pending value
  -- The others are those of one command each.
  all_goals exact s.command_pending _ _ _

/-- Settles O2: no row is refused or faults, and each keeps the queue. -/
theorem everyCommandAnswersAState : Obligations.EveryCommandAnswersAState := by
  unfold Obligations.EveryCommandAnswersAState
  intro i s
  obtain ⟨t, ht⟩ := exec_answers s i
  exact ⟨t, ht, exec_pending ht⟩

end Sys2Proof.Machine
end

section
/-! PROOFS. The step of a tally and its crossings, and the commands on tallies (O42, O43). -/

namespace Sys2Proof.Machine

/-! ## The tests of the arms (R82, R83) -/

section
variable {t : Tally}

theorem Tally.testUpper_absent (h : t.upper = none) : t.testUpper = (false, false) := by
  simp only [Tally.testUpper, h]

/-- An armed upper arm stays armed below its threshold, and crosses at it (R82). -/
theorem Tally.testUpper_armed {u : Int} (h : t.upper = some u) (ha : t.upperArm = true) :
    t.testUpper = (decide (t.value < u), decide (u ≤ t.value)) := by
  simp only [Tally.testUpper, h, ha, if_true]

/-- A clear upper arm arms at the hysteresis below its threshold, and does not cross (R82). -/
theorem Tally.testUpper_clear {u : Int} (h : t.upper = some u) (ha : t.upperArm = false) :
    t.testUpper = (decide (t.value ≤ u - t.hysteresis), false) := by
  simp [Tally.testUpper, h, ha]

theorem Tally.testLower_absent (h : t.lower = none) : t.testLower = (false, false) := by
  simp only [Tally.testLower, h]

/-- An armed lower arm stays armed above its threshold, and crosses at it (R83). -/
theorem Tally.testLower_armed {l : Int} (h : t.lower = some l) (ha : t.lowerArm = true) :
    t.testLower = (decide (l < t.value), decide (t.value ≤ l)) := by
  simp only [Tally.testLower, h, ha, if_true]

/-- A clear lower arm arms at the hysteresis above its threshold, and does not cross (R83). -/
theorem Tally.testLower_clear {l : Int} (h : t.lower = some l) (ha : t.lowerArm = false) :
    t.testLower = (decide (l + t.hysteresis ≤ t.value), false) := by
  simp [Tally.testLower, h, ha]

end

/-! ## A step (R81 to R85) -/

section
variable (t : Tally) (amount : Int)

theorem Tally.step_upperArm : (t.step amount).upperArm = (t.add amount).testUpper.1 := rfl

theorem Tally.step_lowerArm : (t.step amount).lowerArm = (t.add amount).testLower.1 := rfl

/-- The step count of a step saturates (R81). -/
theorem Tally.step_steps : (t.step amount).steps.toNat = min 65535 (t.steps.toNat + 1) := by
  rw [Nat.min_comm]
  exact satInc_toNat t.steps

/-- Each crossing of a step is counted, up to 255 (R85). -/
theorem Tally.step_crossings :
    (t.step amount).crossings.toNat = min 255 (t.crossings.toNat + (t.crossed amount).length) := by
  have hc := t.crossings.isLt
  have hadd : (t.add amount).crossings = t.crossings := rfl
  simp only [Tally.step, Tally.crossed, hadd]
  split <;> split <;> simp [satInc_toNat] <;> omega

/-- No crossing is handed to the arbiter when neither threshold is reached by its armed arm (R82, R83). -/
theorem Tally.crossed_nil
    (hu : ∀ u, t.upper = some u → t.upperArm = false ∨ (t.step amount).value < u)
    (hl : ∀ l, t.lower = some l → t.lowerArm = false ∨ l < (t.step amount).value) : t.crossed amount = [] := by
  have hup : ¬ (t.add amount).testUpper.2 = true := by
    rw [Tally.testUpper_crossed]
    rintro ⟨u, e, ha, hv⟩
    exact (hu u e).elim (fun hf => Bool.noConfusion (ha.symm.trans hf)) (Int.not_lt.2 hv)
  have hdown : ¬ (t.add amount).testLower.2 = true := by
    rw [Tally.testLower_crossed]
    rintro ⟨l, e, ha, hv⟩
    exact (hl l e).elim (fun hf => Bool.noConfusion (ha.symm.trans hf)) (Int.not_lt.2 hv)
  simp only [Tally.crossed, if_neg hup, if_neg hdown, List.append_nil]

variable {t}

/-- A step that crosses the upper threshold crosses nothing else, and clears the arm (R82). -/
theorem Tally.step_crosses_up (ho : ∀ u l, t.upper = some u → t.lower = some l → l < u) {u : Int}
    (h : t.upper = some u) (ha : t.upperArm = true) (hv : u ≤ (t.step amount).value) :
    t.crossed amount = [1] ∧ (t.step amount).upperArm = false := by
  have hup : (t.add amount).testUpper.2 = true := (Tally.testUpper_crossed _).2 ⟨u, h, ha, hv⟩
  have hlen := t.crossed_length amount ho
  constructor
  · simp only [Tally.crossed, hup, if_true] at hlen ⊢
    split at hlen
    · simp at hlen
    · next hdown => simp [hdown, up]
  · rw [Tally.step_upperArm, Tally.testUpper_armed (t := t.add amount) h ha]
    exact decide_eq_false (Int.not_lt.2 hv)

/-- A step that crosses the lower threshold crosses nothing else, and clears the arm (R83). -/
theorem Tally.step_crosses_down (ho : ∀ u l, t.upper = some u → t.lower = some l → l < u) {l : Int}
    (h : t.lower = some l) (ha : t.lowerArm = true) (hv : (t.step amount).value ≤ l) :
    t.crossed amount = [2] ∧ (t.step amount).lowerArm = false := by
  have hdown : (t.add amount).testLower.2 = true := (Tally.testLower_crossed _).2 ⟨l, h, ha, hv⟩
  have hlen := t.crossed_length amount ho
  constructor
  · simp only [Tally.crossed, hdown, if_true] at hlen ⊢
    split at hlen
    · simp at hlen
    · next hup => simp [hup, down]
  · rw [Tally.step_lowerArm, Tally.testLower_armed (t := t.add amount) h ha]
    exact decide_eq_false (Int.not_lt.2 hv)

/-- What a step leaves of an upper arm that does not cross: an armed arm stays, and a clear one arms at the hysteresis
below the threshold (R82). -/
theorem Tally.step_upperArm_uncrossed {u : Int} (h : t.upper = some u) :
    (t.upperArm = true → (t.step amount).value < u → (t.step amount).upperArm = true) ∧
    (t.upperArm = false → ((t.step amount).upperArm = true ↔ (t.step amount).value ≤ u - t.hysteresis)) := by
  refine ⟨fun ha hv => ?_, fun ha => ?_⟩
  · rw [Tally.step_upperArm, Tally.testUpper_armed (t := t.add amount) h ha]
    exact decide_eq_true hv
  · rw [Tally.step_upperArm, Tally.testUpper_clear (t := t.add amount) h ha]
    exact decide_eq_true_iff

/-- What a step leaves of a lower arm that does not cross: an armed arm stays, and a clear one arms at the hysteresis
above the threshold (R83). -/
theorem Tally.step_lowerArm_uncrossed {l : Int} (h : t.lower = some l) :
    (t.lowerArm = true → l < (t.step amount).value → (t.step amount).lowerArm = true) ∧
    (t.lowerArm = false → ((t.step amount).lowerArm = true ↔ l + t.hysteresis ≤ (t.step amount).value)) := by
  refine ⟨fun ha hv => ?_, fun ha => ?_⟩
  · rw [Tally.step_lowerArm, Tally.testLower_armed (t := t.add amount) h ha]
    exact decide_eq_true hv
  · rw [Tally.step_lowerArm, Tally.testLower_clear (t := t.add amount) h ha]
    exact decide_eq_true_iff

/-- Without its threshold an arm is clear after every step (R82, R83). -/
theorem Tally.step_arms_absent :
    (t.upper = none → (t.step amount).upperArm = false) ∧ (t.lower = none → (t.step amount).lowerArm = false) := by
  refine ⟨fun h => ?_, fun h => ?_⟩
  · rw [Tally.step_upperArm, Tally.testUpper_absent (t := t.add amount) h]
  · rw [Tally.step_lowerArm, Tally.testLower_absent (t := t.add amount) h]

end

/-- Settles O42: each arm by its test, and one crossing at most because the thresholds of a good tally are in order. -/
theorem talliesStepAndCross : Obligations.TalliesStepAndCross := by
  unfold Obligations.TalliesStepAndCross
  intro t amount hgood _ _
  obtain ⟨-, -, -, -, -, -, ho⟩ := (Tally.good_iff t).1 hgood
  obtain ⟨hupper, hlower, hhysteresis, htarget⟩ := t.step_frame amount
  obtain ⟨hnoUpper, hnoLower⟩ := t.step_arms_absent amount
  exact ⟨clampTally_eq _, t.step_steps amount, hupper, hlower, hhysteresis, htarget,
    fun _ h => t.step_crosses_up amount ho h, fun _ h => (t.step_upperArm_uncrossed amount h).1,
    fun _ h => (t.step_upperArm_uncrossed amount h).2,
    fun _ h => t.step_crosses_down amount ho h, fun _ h => (t.step_lowerArm_uncrossed amount h).1,
    fun _ h => (t.step_lowerArm_uncrossed amount h).2,
    hnoUpper, hnoLower, t.crossed_nil amount, t.step_crossings amount, Tally.step_good hgood amount⟩

/-! ## The settings of a tally as bytes (R87, R199) -/

@[simp] theorem index?_tally (i : TallyIx) : index? 8 (indexByte i) = some i := index?_indexByte (by decide) i

/-- A threshold reads back from its presence bit and its two bytes (R194, R199). -/
theorem threshold_signed {v : Option Int} (h : ∀ u, v = some u → -32768 ≤ u ∧ u ≤ 32767) :
    threshold v.isSome (hiByte (BitVec.ofInt 16 (v.getD 0))) (loByte (BitVec.ofInt 16 (v.getD 0))) = v := by
  cases v with
  | none => rfl
  | some u =>
    obtain ⟨hlow, hhigh⟩ := h u rfl
    have hu : (BitVec.ofInt 16 u).toInt = u := BitVec.toInt_ofInt_eq_self (by decide) (by omega) (by omega)
    simp only [threshold, Option.isSome_some, if_true, wordOf_bytes, Option.getD_some, hu]

/-- A target level reads back from its presence bit and its byte (R195, R199). -/
theorem target?_targetByte (level : Option LevelIx) : target? level.isSome (targetByte level) = some level := by
  cases level with
  | none => rfl
  | some l => exact congrArg (Option.map some) (index?_level l)

theorem thresholdsOrdered_of_lt {upper lower : Option Int} (h : ∀ u l, upper = some u → lower = some l → l < u) :
    thresholdsOrdered upper lower = true := by
  cases upper with
  | none => rfl
  | some u =>
    cases lower with
    | none => rfl
    | some l => exact decide_eq_true (h u l rfl rfl)

/-- The flags byte of CONFIGURE_TALLY: its three presence bits, and no reserved bit (R199). -/
theorem tallyFlags_fields (a b c : Bool) :
    (flag 0 a ||| flag 1 b ||| flag 2 c).getLsbD 0 = a ∧ (flag 0 a ||| flag 1 b ||| flag 2 c).getLsbD 1 = b ∧
    (flag 0 a ||| flag 1 b ||| flag 2 c).getLsbD 2 = c ∧ (flag 0 a ||| flag 1 b ||| flag 2 c) &&& 0xF8 = 0 := by
  revert a b c
  decide

/-- Settings in their ranges read back from the bytes of CONFIGURE_TALLY (R87). -/
theorem tallySettings?_bytes {upper lower : Option Int} {h : Byte} (target : Option LevelIx)
    (hu : ∀ u, upper = some u → -32768 ≤ u ∧ u ≤ 32767) (hl : ∀ l, lower = some l → -32768 ≤ l ∧ l ≤ 32767)
    (ho : ∀ u l, upper = some u → lower = some l → l < u) (hh : h ≠ 0) :
    tallySettings? (flag 0 upper.isSome ||| flag 1 lower.isSome ||| flag 2 target.isSome)
        (hiByte (BitVec.ofInt 16 (upper.getD 0))) (loByte (BitVec.ofInt 16 (upper.getD 0)))
        (hiByte (BitVec.ofInt 16 (lower.getD 0))) (loByte (BitVec.ofInt 16 (lower.getD 0))) h (targetByte target) =
      some ⟨upper, lower, h.toNat, target⟩ := by
  obtain ⟨hbit0, hbit1, hbit2, hreserved⟩ := tallyFlags_fields upper.isSome lower.isSome target.isSome
  simp only [tallySettings?, hbit0, hbit1, hbit2, threshold_signed hu, threshold_signed hl]
  rw [if_pos ⟨hreserved, hh, thresholdsOrdered_of_lt ho⟩, target?_targetByte]
  rfl

/-! ## The commands on tallies (R86 to R88) -/

/-- A tally with new settings and the arms that its value gives them (R86, R87). -/
def Tally.configured (t : Tally) (x : TallySettings) : Tally :=
  { t with
    upper := x.upper
    lower := x.lower
    hysteresis := x.hysteresis
    target := x.target
    upperArm := upperArmAt x.upper x.hysteresis t.value
    lowerArm := lowerArmAt x.lower x.hysteresis t.value }

/-- CONFIGURE_TALLY writes the settings that its bytes give, and answers the value and the two arms (R87). -/
theorem cmdConfigureTally_ok {flags uh ul lh ll h target : Byte} {x : TallySettings} (s : State) (i : TallyIx)
    (hx : tallySettings? flags uh ul lh ll h target = some x) :
    cmdConfigureTally [indexByte i, flags, uh, ul, lh, ll, h, target] s =
      ⟨s.onTally i fun t => t.configured x, .ok,
        signed16 s.tallies[i].value ++
          [flag 0 (upperArmAt x.upper x.hysteresis s.tallies[i].value) |||
            flag 1 (lowerArmAt x.lower x.hysteresis s.tallies[i].value)], none⟩ := by
  simp only [cmdConfigureTally, index?_tally, hx, inRange, Tally.reevaluate_eq]
  rfl

/-- The level byte of READ_TALLY is the one that CONFIGURE_TALLY takes (R199). -/
theorem number8_target (target : Option LevelIx) : number8 ((target.map Fin.val).getD 0) = targetByte target := by
  cases target <;> rfl

/-- READ_TALLY reports the tally as it was, and clears it on request (R88). -/
theorem cmdReadTally_ok (s : State) (i : TallyIx) (clear : Bool) :
    cmdReadTally [indexByte i, settingByte clear] s =
      ⟨s.withTallies (if clear = true then update s.tallies i Tally.emptied else s.tallies), .ok,
        s.tallies[i].report, none⟩ := by
  have hclear : Tally.clear = Tally.emptied := funext Tally.clear_eq
  simp only [cmdReadTally, index?_tally, setting?_settingByte, inRange, hclear]
  cases clear <;> rfl

/-- Settles O43: the settings read back from their bytes, and each command rewrites the one tally at most. -/
theorem talliesAreConfiguredAndRead : Obligations.TalliesAreConfiguredAndRead := by
  unfold Obligations.TalliesAreConfiguredAndRead
  intro s sequence i h
  refine ⟨fun upper lower hb target hu hl ho hh => ?_, fun clear => ?_⟩
  · exact exec_replied h (c := .configureTally) rfl
      (cmdConfigureTally_ok s.heard i (tallySettings?_bytes target hu hl ho hh))
  · rw [← number8_target]
    exact exec_replied h (c := .readTally) rfl (cmdReadTally_ok s.heard i clear)

end Sys2Proof.Machine
end

section
/-! PROOFS. The commands on patterns and signals, the end of a phase and the pin of an output (O44, O45, O46). -/

namespace Sys2Proof.Machine

/-! ## The fields of a pattern as bytes (R92, R201) -/

/-- A tone reads back from its byte. -/
@[simp] theorem tone?_byte (x : Tone) : tone? x.byte = some x := by cases x <;> decide

/-- The flags byte of LOAD_PATTERN: the long-mark flag, and no reserved bit (R201). -/
theorem patternFlags_fields (longMark : Bool) :
    (settingByte longMark).getLsbD 0 = longMark ∧ settingByte longMark &&& 0xFE = 0 := by
  revert longMark
  decide

/-- The ranges that LOAD_PATTERN checks (R92). -/
theorem Pattern.good_iff (x : Pattern) :
    x.Good = true ↔ x.mark ≠ 0 ∧ x.count ≤ 1000 ∧ (x.longMark = true ∨ x.space ≠ 0) ∧
      (x.longMark = false ∨ x.count ≠ 0) := by
  simp [Pattern.Good, and_assoc]

/-- A pattern in range reads back from the bytes of LOAD_PATTERN (R92, R201). -/
theorem pattern?_bytes {x : Pattern} (h : x.Good = true) :
    pattern? x.mark x.space (BitVec.ofNat 16 x.count) x.tone.byte (settingByte x.longMark)
      (optionalByte x.completion) = some x := by
  obtain ⟨hmark, hcount, hspace, hpulses⟩ := x.good_iff.1 h
  obtain ⟨hflag, hreserved⟩ := patternFlags_fields x.longMark
  have hn : (BitVec.ofNat 16 x.count).toNat = x.count := by
    rw [BitVec.toNat_ofNat, Nat.mod_eq_of_lt (by omega)]
  have hz : x.count ≠ 0 → BitVec.ofNat 16 x.count ≠ 0 := fun hne e => hne (by rw [← hn, e]; rfl)
  simp only [pattern?, hflag, hn, tone?_byte, optionalIndex?_optionalByte (by decide : 16 ≤ 255)]
  rw [if_pos ⟨hmark, hcount, hreserved, hspace, hpulses.imp_right hz⟩]
  rfl

/-! ## LOAD_PATTERN and START_SIGNAL (R92, R95 to R97) -/

/-- LOAD_PATTERN writes the pattern that its bytes give (R92). -/
theorem cmdLoadPattern_ok {markHi markLo spaceHi spaceLo countHi countLo tone flags completion : Byte} {x : Pattern}
    (s : State) (i : PatternIx)
    (hx : pattern? (wordOf markHi markLo) (wordOf spaceHi spaceLo) (wordOf countHi countLo) tone flags completion =
      some x) :
    cmdLoadPattern [indexByte i, markHi, markLo, spaceHi, spaceLo, countHi, countLo, tone, flags, completion] s =
      ⟨s.withPatterns (update s.patterns i fun _ => some x), .ok, [], none⟩ := by
  simp only [cmdLoadPattern, index?_indexByte (by decide : 16 ≤ 256), hx, inRange]
  rfl

section
variable (s : State) (o : OutputIx) {i : PatternIx}

/-- START_SIGNAL of a pattern that is not loaded (R97). -/
theorem cmdStartSignal_unloaded (h : s.patterns[i] = none) :
    cmdStartSignal [indexByte o, indexByte i] s = refuse s .unloaded := by
  simp only [cmdStartSignal, index?_indexByte (by decide : 4 ≤ 256), index?_indexByte (by decide : 16 ≤ 256), inRange]
  rw [h]

/-- A rewritten output depends on what is made of that output alone. -/
theorem State.onOutput_congr {f g : Output → Output} (h : f s.outputs[o] = g s.outputs[o]) :
    s.onOutput o f = s.onOutput o g := congrArg s.withOutputs (update_congr _ _ h)

/-- START_SIGNAL of a loaded pattern starts its snapshot on the output, and reports what the output was doing (R97). -/
theorem cmdStartSignal_ok {x : Pattern} {f : Output → Output} {data : List Byte} (h : s.patterns[i] = some x)
    (hf : s.outputs[o].start ⟨i, x⟩ = f s.outputs[o]) (hdata : s.outputs[o].startReport = data) :
    cmdStartSignal [indexByte o, indexByte i] s = ⟨s.onOutput o f, .ok, data, none⟩ := by
  simp only [cmdStartSignal, index?_indexByte (by decide : 4 ≤ 256), index?_indexByte (by decide : 16 ≤ 256), inRange]
  rw [h, ← s.onOutput_congr o (f := fun y => y.start ⟨i, x⟩) hf, ← hdata]
  rfl

end

theorem Output.startReport_idle {o : Output} (h : o.running = none) : o.startReport = [1, 0xFF] := by
  simp only [Output.startReport, h, absentCode]

theorem Output.startReport_running {o : Output} {b : Burst} (h : o.running = some b) :
    o.startReport = [2, optionalByte (o.waiting.map Snapshot.index)] := by
  simp only [Output.startReport, h, indexOrAbsent_eq]

/-- Settles O44: the pattern reads back from its bytes, and a start is one on an IDLE or on a running output. -/
theorem patternsAreLoadedAndStarted : Obligations.PatternsAreLoadedAndStarted := by
  unfold Obligations.PatternsAreLoadedAndStarted
  intro s sequence i h
  refine ⟨fun x hx => ?_, fun o => ⟨fun hn => ?_, fun x hx => ⟨fun hidle => ?_, fun b hrun => ?_⟩⟩⟩
  · refine exec_replied h (c := .loadPattern) rfl (cmdLoadPattern_ok s.heard i ?_)
    simp only [wordOf_bytes, pattern?_bytes hx]
  · exact exec_replied h (c := .startSignal) rfl (cmdStartSignal_unloaded s.heard o hn)
  · exact exec_replied h (c := .startSignal) rfl
      (cmdStartSignal_ok s.heard o hx (Output.start_idle _ hidle) (Output.startReport_idle hidle))
  · exact exec_replied h (c := .startSignal) rfl
      (cmdStartSignal_ok s.heard o hx (Output.start_running _ hrun) (Output.startReport_running hrun))

/-! ## STOP_SIGNAL and READ_SIGNAL (R104, R105) -/

/-- STOP_SIGNAL reports what the output held as it stood, and empties the output (R104). -/
theorem cmdStopSignal_ok (s : State) (o : OutputIx) :
    cmdStopSignal [indexByte o] s =
      ⟨s.onOutput o Output.stop, .ok,
        [indexOrAbsent s.outputs[o].runningIndex, indexOrAbsent s.outputs[o].waitingIndex], none⟩ := by
  simp only [cmdStopSignal, index?_indexByte (by decide : 4 ≤ 256), inRange]
  rfl

/-- READ_SIGNAL changes nothing (R105). -/
theorem cmdReadSignal_ok (s : State) (o : OutputIx) :
    cmdReadSignal [indexByte o] s = ⟨s, .ok, s.outputs[o].report, none⟩ := by
  simp only [cmdReadSignal, index?_indexByte (by decide : 4 ≤ 256), inRange]
  rfl

/-- The state code of an output, phase by phase (Table 10-3). -/
theorem Output.stateCode_eq (o : Output) :
    o.stateCode = match o.running with
      | none => 0
      | some b => (match b.phase with
        | .mark => 1
        | .space => 2) := by
  unfold Output.stateCode
  cases o.running with
  | none => rfl
  | some b => cases hp : b.phase <;> simp only [hp] <;> rfl

/-- Settles O45: each command answers the fields of the output as it stood. -/
theorem signalsAreStoppedAndRead : Obligations.SignalsAreStoppedAndRead := by
  unfold Obligations.SignalsAreStoppedAndRead
  intro s sequence o h
  constructor
  · rw [exec_replied h (c := .stopSignal) rfl (cmdStopSignal_ok s.heard o), indexOrAbsent_eq, indexOrAbsent_eq]
    rfl
  · rw [exec_replied h (c := .readSignal) rfl (cmdReadSignal_ok s.heard o), Output.report, Output.stateCode_eq,
      indexOrAbsent_eq, indexOrAbsent_eq]
    rfl

/-! ## The end of a phase (R99 to R102) -/

theorem Burst.continuous_iff (b : Burst) :
    b.continuous = true ↔ b.copy.pattern.longMark = false ∧ b.copy.pattern.count = 0 := by
  simp [Burst.continuous]

section
variable {o : Output} {b : Burst}

/-- The mark of a continuous burst, or one before the last, leads to a space (R99, R101). -/
theorem Output.phaseEnds_to_space (hgood : b.Good = true) (hp : b.phase = .mark)
    (hl : b.copy.pattern.longMark = false) (h : b.copy.pattern.count = 0 ∨ 2 ≤ b.remaining) :
    o.phaseEnds b = { o with
      running := some
        { b with phase := .space, remaining := b.remaining - 1, timeLeft := b.copy.pattern.space.toNat } } := by
  obtain ⟨-, -, -, hcontinuous, -⟩ := (Burst.good_iff b).1 hgood
  by_cases hc : b.copy.pattern.count = 0
  · have hzero : b.remaining = 0 := hcontinuous hl hc
    simp [Output.phaseEnds, hp, b.continuous_iff.2 ⟨hl, hc⟩, hzero]
  · have hmore : 1 < b.remaining := h.resolve_left hc
    simp [Output.phaseEnds, hp, b.continuous_iff, hc, hmore]

/-- A space leads to the next mark, but for a continuous burst with a snapshot waiting (R99, R101). -/
theorem Output.phaseEnds_to_mark (hp : b.phase = .space) (h : b.copy.pattern.count ≠ 0 ∨ o.waiting = none) :
    o.phaseEnds b = { o with
      running := some { b with phase := .mark, timeLeft := b.copy.pattern.mark.toNat } } := by
  have hstays : ¬ (b.continuous = true ∧ o.waiting.isSome = true) := by
    rw [b.continuous_iff]
    rintro ⟨⟨-, hc⟩, hw⟩
    rcases h with h | h
    · exact h hc
    · simp [h] at hw
  simp only [Output.phaseEnds, hp, if_neg hstays]

/-- The space of a continuous burst gives way to a waiting snapshot (R101). -/
theorem Output.phaseEnds_gives_way (hgood : b.Good = true) (hp : b.phase = .space)
    (hc : b.copy.pattern.count = 0) (hw : o.waiting ≠ none) : o.phaseEnds b = o.next := by
  obtain ⟨-, -, hlong, -, -⟩ := (Burst.good_iff b).1 hgood
  have hl : b.copy.pattern.longMark = false := by
    rw [← Bool.not_eq_true]
    exact fun hl => by simpa [hp] using (hlong hl).1
  have hends : b.continuous = true ∧ o.waiting.isSome = true :=
    ⟨b.continuous_iff.2 ⟨hl, hc⟩, Option.isSome_iff_ne_none.2 hw⟩
  simp only [Output.phaseEnds, hp, if_pos hends]

/-- The phase that ends a counted burst is the mark of its last pulse (R99, R100, R102). -/
theorem Burst.endsAtPhase_iff (hgood : b.Good = true) :
    b.endsAtPhase = true ↔ b.phase = .mark ∧ b.remaining = 1 := by
  obtain ⟨-, -, hlong, hcontinuous, hcounted⟩ := (Burst.good_iff b).1 hgood
  have hkind : b.continuous = true ∧ b.remaining = 0 ∨ ¬ b.continuous = true ∧ 1 ≤ b.remaining := by
    rw [b.continuous_iff]
    cases hl : b.copy.pattern.longMark with
    | true => exact .inr ⟨by simp, (hlong hl).2.ge⟩
    | false =>
      by_cases hc : b.copy.pattern.count = 0
      · exact .inl ⟨⟨rfl, hc⟩, hcontinuous hl hc⟩
      · exact .inr ⟨fun h => hc h.2, (hcounted hl hc).1⟩
  simp only [Burst.endsAtPhase, Bool.and_eq_true, beq_iff_eq, Bool.not_eq_true', decide_eq_true_eq]
  rcases hkind with ⟨hc, hr⟩ | ⟨hc, hr⟩
  · simp [hc, hr]
  · simp only [Bool.not_eq_true] at hc
    simp only [hc, and_true]
    exact and_congr_right fun _ => ⟨fun h => by omega, fun h => by omega⟩

/-- A mark that leads to a space does not end the burst (R99, R101). -/
theorem Burst.goes_on_in_mark (hgood : b.Good = true) (hl : b.copy.pattern.longMark = false)
    (h : b.copy.pattern.count = 0 ∨ 2 ≤ b.remaining) : ¬ b.endsAtPhase = true := by
  obtain ⟨-, -, -, hcontinuous, -⟩ := (Burst.good_iff b).1 hgood
  rw [Burst.endsAtPhase_iff hgood]
  rintro ⟨-, hone⟩
  rcases h with hc | hmore
  · have := hcontinuous hl hc
    omega
  · omega

/-- The end of a space ends no counted burst (R99, R101). -/
theorem Burst.goes_on_in_space (hp : b.phase = .space) : ¬ b.endsAtPhase = true := by
  simp [Burst.endsAtPhase, hp]

end

/-! ## PHASE_END (R93, R98, R102) -/

section
variable {s : State} {o : OutputIx}

/-- An IDLE output has no phase (R93). -/
theorem exec_phaseEnd_idle (hlow : s.rstnLow = false) (h : s.outputs[o].running = none) :
    exec (.phaseEnd o) s = .next s := by
  show Host.Outcome.next (s.whileRunning _) = _
  rw [s.whileRunning_run _ hlow, State.phaseEnds, h]

variable {b : Burst} {f : Output → Output}

/-- A phase that does not end the burst changes the output and nothing else. -/
theorem exec_phaseEnd_quiet (hlow : s.rstnLow = false) (h : s.outputs[o].running = some b)
    (hquiet : ¬ b.endsAtPhase = true) (hf : s.outputs[o].phaseEnds b = f s.outputs[o]) :
    exec (.phaseEnd o) s = .next { s with outputs := update s.outputs o f } := by
  show Host.Outcome.next (s.whileRunning _) = _
  rw [s.whileRunning_run _ hlow, State.phaseEnds, h]
  simp only [if_neg hquiet]
  exact congrArg Host.Outcome.next (s.onOutput_congr o hf)

/-- The end of a counted burst asserts its completion level, and the waiting snapshot begins (R102). -/
theorem exec_phaseEnd_ends (hlow : s.rstnLow = false) (h : s.outputs[o].running = some b)
    (hends : b.endsAtPhase = true) (hf : s.outputs[o].next = f s.outputs[o]) :
    exec (.phaseEnd o) s = .next { s with
      arbiter := s.arbiter.assertedAt b.copy.pattern.completion (.signal o) (indexByte b.copy.index) s.timer
      outputs := update s.outputs o f } := by
  show Host.Outcome.next (s.whileRunning _) = _
  rw [s.whileRunning_run _ hlow, State.phaseEnds, h]
  simp only [if_pos hends, State.assertOptional_eq]
  exact congrArg Host.Outcome.next
    (State.onOutput_congr _ o ((Output.phaseEnds_last s.outputs[o] hends).trans hf))

end

/-! ## The SIG pin (R93, R103) -/

section
variable {o : Output} {b : Burst}

theorem Output.pin_idle (h : o.running = none) : o.pin = .low := by simp only [Output.pin, h]

theorem Output.pin_space (h : o.running = some b) (hp : b.phase = .space) : o.pin = .low := by
  simp [Output.pin, h, hp]

theorem Output.pin_mark {tone : Tone} (h : o.running = some b) (hp : b.phase = .mark)
    (ht : b.copy.pattern.tone = tone) : o.pin = tone.pin := by
  simp [Output.pin, h, hp, ht]

end

/-- Settles O46: one lemma per end of a phase; the last mark is the one that ends the burst, and no other phase asserts
the completion level. -/
theorem phasesFollowOneAnother : Obligations.PhasesFollowOneAnother := by
  unfold Obligations.PhasesFollowOneAnother
  intro s o hlow
  refine ⟨fun h => ⟨exec_phaseEnd_idle hlow h, Output.pin_idle h⟩,
    fun b h => ⟨Output.pin_space h, Output.pin_mark h, Output.pin_mark h, Output.pin_mark h, Output.pin_mark h⟩,
    fun b h hgood => ⟨fun hp hl hmore => ?_, fun hp hone => ?_, fun hp hstays => ?_, fun hp hc hw => ?_⟩⟩
  · exact exec_phaseEnd_quiet hlow h (Burst.goes_on_in_mark hgood hl hmore)
      (Output.phaseEnds_to_space hgood hp hl hmore)
  · exact exec_phaseEnd_ends hlow h ((Burst.endsAtPhase_iff hgood).2 ⟨hp, hone⟩) rfl
  · exact exec_phaseEnd_quiet hlow h (Burst.goes_on_in_space hp) (Output.phaseEnds_to_mark hp hstays)
  · exact exec_phaseEnd_quiet hlow h (Burst.goes_on_in_space hp) (Output.phaseEnds_gives_way hgood hp hc hw)

end Sys2Proof.Machine
end

section
/-! PROOFS. Nothing runs while RSTN is low; the rows of the wires, and a whole frame on them (O21, O51, O52). -/

namespace Sys2Proof.Machine

/-! ## RSTN low (R130, R177) -/

/-- A row of the part's own engines and of the lines, while RSTN is released. -/
theorem exec_running {s t : State} {i : Instr} {f : State → State} (hlow : s.rstnLow = false)
    (hrow : exec i s = .next (s.whileRunning f)) (hf : f s = t) : exec i s = .next t := by
  rw [hrow, s.whileRunning_run f hlow, hf]

/-- Settles O21: a row is a message, which is not heard, or waits for RSTN, apart from the three that are excepted. -/
theorem nothingRunsWhileReset : Obligations.NothingRunsWhileReset := by
  unfold Obligations.NothingRunsWhileReset
  refine ⟨fun s i hlow hcold hrelease hend => ?_, fun s hlow => exec_running hlow rfl rfl⟩
  have hdeaf : ¬ s.Hears := fun h => absurd (hlow.symm.trans h.1) (by decide)
  have hreceives : ¬ s.receives = true := by simp [State.receives, hlow]
  cases i
  case coldReset => exact absurd rfl hcold
  case rstnReleased => exact absurd rfl hrelease
  case transmitEnd => exact absurd rfl hend
  case breakDetected | lengthError | checkError =>
    show Host.Outcome.next (if s.receives then _ else s) = _
    rw [if_neg hreceives]
  case breakEnd | gapAbort | offer | takeTimerExpiry | classify | phaseEnd | inboundFrame | frameBroken
      | probeTimerExpiry | probe | requestToSend | startBit | attemptOutcome | noResponse | cutEnd | silenceExpiry
      | transmitBegin | inboundFrameBegins | clockGiven | characterComplete | partTimerTick =>
    exact congrArg Host.Outcome.next (s.whileRunning_low _ hlow)
  all_goals exact congrArg Host.Outcome.next (s.onMessage_deaf hdeaf _)

/-! ## One port replaced -/

section
variable (s : State) (p : PortIx)

/-- A rewritten port depends on what is made of that port alone. -/
theorem State.onPort_congr {f g : Port → Port} (h : f s.ports[p] = g s.ports[p]) : s.onPort p f = s.onPort p g :=
  congrArg s.withPorts (update_congr _ p h)

theorem State.onPort_unchanged {f : Port → Port} (h : f s.ports[p] = s.ports[p]) : s.onPort p f = s := by
  rw [s.onPort_congr p (g := fun pt => pt) h, State.onPort, update_unchanged]
  rfl

theorem State.onPort_onPort (f g : Port → Port) : (s.onPort p f).onPort p g = s.onPort p fun pt => g (f pt) :=
  congrArg s.withPorts (update_update _ p f g)

theorem State.onPort_self (f : Port → Port) : (s.onPort p f).ports[p] = f s.ports[p] := by simp

/-- The line of one port does something else, and nothing else has changed. -/
def State.lineDoes (a : Activity) : State :=
  s.onPort p fun pt => { pt with line := { pt.line with activity := a } }

theorem State.lineDoes_line (a : Activity) :
    (s.lineDoes p a).ports[p].line = { s.ports[p].line with activity := a } :=
  congrArg Port.line (s.onPort_self p _)

theorem State.lineDoes_lineDoes (a b : Activity) : (s.lineDoes p a).lineDoes p b = s.lineDoes p b :=
  s.onPort_onPort p _ _

end

/-! ## The rows of the wires (R108, R114, R120, R121, R123) -/

theorem Line.state_quiet_iff (l : Line) : l.state = .quiet ↔ l.activity = .none ∧ l.reasons.any = false := by
  unfold Line.state
  cases ha : l.activity with
  | none => cases l.reasons.any <;> simp
  | closing => cases l.reasons.any <;> simp
  | holdPhase fromHeld => cases fromHeld <;> simp
  | _ => simp

section
variable {pt : Port}

/-- A falling edge on a QUIET line begins an inbound frame, and PREEMPT is tested (R114, R126). -/
theorem Port.inboundBegins_quiet (h : pt.line.state = .quiet) :
    pt.inboundBegins = { pt with line := { pt.line with activity := .inbound [] true false } }.preempted := by
  obtain ⟨-, hreasons⟩ := pt.line.state_quiet_iff.1 h
  rw [Port.inboundBegins, if_pos h]
  exact Port.testPreempt_eq _ (.inl hreasons)

theorem Port.preempted_free (h : pt.config.precedence = .yield ∨ pt.line.ready = none) : pt.preempted = pt := by
  unfold Port.preempted
  rw [if_neg]
  rintro ⟨hready, hpreempt, -⟩
  rcases h with h | h
  · simp [h] at hpreempt
  · simp [h] at hready

/-- Where PREEMPT finds nothing to send, or does not apply, the frame runs on. -/
theorem Port.inboundBegins_free (h : pt.line.state = .quiet)
    (hfree : pt.config.precedence = .yield ∨ pt.line.ready = none) :
    pt.inboundBegins = pt.withLine (.inbound [] true false) pt.line.ready := by
  rw [Port.inboundBegins_quiet h]
  exact Port.preempted_free hfree

theorem Port.inboundBegins_not_quiet (h : pt.line.state ≠ .quiet) : pt.inboundBegins = pt := by
  rw [Port.inboundBegins, if_neg h]

/-- A ready frame begins its request-to-send from QUIET with both wires high, or from HELD (R120). -/
theorem Port.requestToSend_begins {r : Ready} {fromHeld clkHigh dataHigh : Bool} (hr : pt.line.ready = some r)
    (ha : pt.line.activity = .none)
    (h : (fromHeld = false ∧ pt.line.reasons.any = false ∧ clkHigh = true ∧ dataHigh = true) ∨
      (fromHeld = true ∧ pt.line.reasons.any = true ∧ pt.line.reasons.disabled = false ∧
        pt.line.reasons.faulted = false ∧ r.probe = false)) :
    pt.requestToSend clkHigh dataHigh = pt.beginAttempt fromHeld r := by
  unfold Port.requestToSend
  rcases h with ⟨rfl, hany, rfl, rfl⟩ | ⟨rfl, hany, hd, hf, hp⟩
  · simp [hr, ha, hany]
  · simp [hr, ha, hany, hd, hf, hp]

/-- An attempt that begins keeps the frame that was ready. -/
theorem Port.beginAttempt_ready {r : Ready} (hr : pt.line.ready = some r) (fromHeld : Bool) :
    pt.beginAttempt fromHeld r =
      { pt with
        line := { pt.line with activity := .holdPhase fromHeld }
        silenceTimer := none
        attempts := if r.probe = true then pt.attempts else pt.attempts + 1 } := by
  rw [Port.beginAttempt, ← hr]
  rfl

theorem Port.requestToSend_waits {clkHigh dataHigh : Bool}
    (h : pt.line.ready = none ∨ pt.line.activity ≠ .none ∨ pt.line.reasons.disabled = true ∨
      pt.line.reasons.faulted = true ∨ (pt.line.reasons.any = false ∧ (clkHigh = false ∨ dataHigh = false)) ∨
      (pt.line.reasons.any = true ∧ pt.line.ready.any Ready.probe = true)) :
    pt.requestToSend clkHigh dataHigh = pt := by
  unfold Port.requestToSend
  split
  · next r ha hr =>
    simp only [ha, hr, reduceCtorEq, ne_eq, not_true_eq_false, false_or, Option.any_some] at h
    split
    · next hany =>
      rw [if_neg]
      rintro ⟨hd, hf, hp⟩
      simp [hd, hf, hp, hany] at h
    · next hany =>
      rw [if_neg]
      rintro ⟨hc, hd⟩
      rw [Bool.not_eq_true] at hany
      simp only [Reasons.any, Bool.or_eq_false_iff] at hany
      obtain ⟨⟨⟨hdisabled, hfaulted⟩, hb⟩, hp⟩ := hany
      simp [hc, hd, hdisabled, hfaulted, Reasons.any, hb, hp] at h
  · rfl

theorem Port.startBit_holdPhase {fromHeld : Bool} (h : pt.line.activity = .holdPhase fromHeld) :
    pt.startBit = { pt with line := { pt.line with
      activity := .awaitClock, reasons := { pt.line.reasons with preempt := false } } } := by
  rw [Port.startBit, h]
  rfl

theorem Port.startBit_else (h : ∀ fromHeld : Bool, pt.line.activity ≠ .holdPhase fromHeld) : pt.startBit = pt := by
  unfold Port.startBit
  split
  · next ha => exact absurd ha (h _)
  · rfl

theorem Port.cutEnds_closing (h : pt.line.activity = .closing) :
    pt.cutEnds = { pt with line := { pt.line with activity := .none } } := by
  rw [Port.cutEnds, h]
  rfl

theorem Port.cutEnds_else (h : pt.line.activity ≠ .closing) : pt.cutEnds = pt := by
  unfold Port.cutEnds
  split
  · next ha => exact absurd ha h
  · rfl

/-! ### The edges of CLK -/

/-- A rising edge in an inbound frame gives the clock and samples DATA (R114). -/
theorem Port.clock_inbound_rising {bits : List Bool} {gone : Bool} (h : pt.line.activity = .inbound bits true gone)
    (high : Bool) : pt.clock .rising high = pt.withLine (.inbound (bits ++ [high]) false gone) pt.line.ready := by
  unfold Port.clock
  rw [h]

theorem Port.clock_inbound_falling {bits : List Bool} {gone : Bool} (h : pt.line.activity = .inbound bits false gone)
    (hb : bits.length < 15) (high : Bool) :
    pt.clock .falling high = pt.withLine (.inbound bits true gone) pt.line.ready := by
  unfold Port.clock
  rw [h]
  exact if_pos hb

/-- The first falling edge ends the wait for the endpoint (R121). -/
theorem Port.clock_awaitClock (h : pt.line.activity = .awaitClock) (high : Bool) :
    pt.clock .falling high = pt.withLine (.outbound 0 true false) pt.line.ready := by
  unfold Port.clock
  rw [h]

/-- The answer is what DATA reads at the rising edge of clock 15 (R110). -/
theorem Port.clock_outbound_rising {given : Nat} {answered : Bool} (h : pt.line.activity = .outbound given true answered)
    (high : Bool) :
    pt.clock .rising high =
      pt.withLine (.outbound (given + 1) false (decide (given + 1 = 15) && !high)) pt.line.ready := by
  unfold Port.clock
  rw [h]
  rfl

theorem Port.clock_outbound_falling {given : Nat} {answered : Bool}
    (h : pt.line.activity = .outbound given false answered) (hg : given < 15) (high : Bool) :
    pt.clock .falling high = pt.withLine (.outbound given true answered) pt.line.ready := by
  unfold Port.clock
  rw [h]
  exact if_pos hg

/-- At most fifteen clocks have been given in a frame. -/
theorem Line.good_inbound {l : Line} {bits : List Bool} {low gone : Bool} (h : l.good = true)
    (ha : l.activity = .inbound bits low gone) :
    bits.length ≤ 15 ∧ (low = true → bits.length < 15) ∧ (l.reasons.any = true → 12 ≤ bits.length) := by
  cases low <;> simp_all [Line.good, Bool.or_eq_true, imp_iff_not_or]

theorem Line.good_outbound {l : Line} {given : Nat} {low answered : Bool} (h : l.good = true)
    (ha : l.activity = .outbound given low answered) :
    l.ready.isSome = true ∧ l.reasons.disabled = false ∧ l.reasons.faulted = false ∧ l.reasons.preempt = false ∧
      given ≤ 15 ∧ (low = true → given < 15) := by
  cases low <;> simp_all [Line.good]

end

section
variable {s : State} {p : PortIx}

/-- A row of the wires that changes its port by `f`. -/
theorem exec_wires {i : Instr} {f g : Port → Port} (hlow : s.rstnLow = false)
    (hrow : exec i s = .next (s.whileRunning fun t => t.onPort p f)) (h : f s.ports[p] = g s.ports[p]) :
    exec i s = .next (s.onPort p g) :=
  exec_running hlow hrow (s.onPort_congr p h)

/-- A row of the wires whose condition does not hold (log 3). -/
theorem exec_wires_idle {i : Instr} {f : Port → Port} (hlow : s.rstnLow = false)
    (hrow : exec i s = .next (s.whileRunning fun t => t.onPort p f)) (h : f s.ports[p] = s.ports[p]) :
    exec i s = .next s :=
  exec_running hlow hrow (s.onPort_unchanged p h)

/-- An edge that moves the line on (R108, R114, R121). -/
theorem exec_clockGiven {edge : Edge} {high : Bool} {a : Activity} (hlow : s.rstnLow = false)
    (h : s.ports[p].clock edge high = s.ports[p].withLine a s.ports[p].line.ready) :
    exec (.clockGiven p edge high) s = .next (s.lineDoes p a) :=
  exec_wires hlow rfl h

/-- CLOCK_GIVEN, by what the line is doing (R108, R110, R114, R121). -/
theorem exec_clockGiven_eq (hlow : s.rstnLow = false) (hgood : s.ports[p].line.good = true) (edge : Edge)
    (high : Bool) :
    exec (.clockGiven p edge high) s =
      match s.ports[p].line.activity, edge with
      | .none, .falling => exec (.inboundFrameBegins p) s
      | .inbound bits true gone, .rising => .next (s.lineDoes p (.inbound (bits ++ [high]) false gone))
      | .inbound bits false gone, .falling =>
        .next (if bits.length = 15 then s else s.lineDoes p (.inbound bits true gone))
      | .awaitClock, .falling => .next (s.lineDoes p (.outbound 0 true false))
      | .outbound given true _, .rising =>
        .next (s.lineDoes p (.outbound (given + 1) false (decide (given + 1 = 15) && !high)))
      | .outbound given false answered, .falling =>
        .next (if given = 15 then s else s.lineDoes p (.outbound given true answered))
      | _, _ => .next s := by
  cases ha : s.ports[p].line.activity with
  | none =>
    cases edge with
    | falling =>
      show Host.Outcome.next _ = .next _
      rw [s.whileRunning_run _ hlow, s.whileRunning_run _ hlow]
      exact congrArg Host.Outcome.next (s.onPort_congr p (by unfold Port.clock; rw [ha]))
    | rising => exact exec_wires_idle hlow rfl (by unfold Port.clock; rw [ha])
  | inbound bits low gone =>
    obtain ⟨hle, -, -⟩ := Line.good_inbound hgood ha
    cases low <;> cases edge
    case false.falling =>
      dsimp only
      by_cases h : bits.length = 15
      · rw [if_pos h]
        exact exec_wires_idle hlow rfl (by unfold Port.clock; rw [ha]; exact if_neg (by omega))
      · rw [if_neg h]
        exact exec_clockGiven hlow (Port.clock_inbound_falling ha (by omega) high)
    case true.rising => exact exec_clockGiven hlow (Port.clock_inbound_rising ha high)
    all_goals exact exec_wires_idle hlow rfl (by unfold Port.clock; rw [ha])
  | awaitClock =>
    cases edge with
    | falling => exact exec_clockGiven hlow (Port.clock_awaitClock ha high)
    | rising => exact exec_wires_idle hlow rfl (by unfold Port.clock; rw [ha])
  | outbound given low answered =>
    obtain ⟨-, -, -, -, hle, -⟩ := Line.good_outbound hgood ha
    cases low <;> cases edge
    case false.falling =>
      dsimp only
      by_cases h : given = 15
      · rw [if_pos h]
        exact exec_wires_idle hlow rfl (by unfold Port.clock; rw [ha]; exact if_neg (by omega))
      · rw [if_neg h]
        exact exec_clockGiven hlow (Port.clock_outbound_falling ha (by omega) high)
    case true.rising => exact exec_clockGiven hlow (Port.clock_outbound_rising ha high)
    all_goals exact exec_wires_idle hlow rfl (by unfold Port.clock; rw [ha])
  | holdPhase | closing => cases edge <;> exact exec_wires_idle hlow rfl (by unfold Port.clock; rw [ha])

end

/-- Settles O51: each row by the lemma of its port operation, where its condition holds and where it does not. -/
theorem wiresAreFollowed : Obligations.WiresAreFollowed := by
  unfold Obligations.WiresAreFollowed
  intro s p hlow hinv
  obtain ⟨-, -, -, -, -, -, -, -, -, -, -, -, -, -, -, -, -, -, -, -, -, -, hgood⟩ := hinv
  refine ⟨fun h => ?_, fun h => ?_, fun edge high => ?_, fun r fromHeld clk data hr ha h => ?_, fun clk data h => ?_,
    fun fromHeld h => ?_, fun h => ?_, fun h => ?_, fun h => ?_⟩
  · exact exec_wires hlow rfl (Port.inboundBegins_quiet h)
  · exact exec_wires_idle hlow rfl (Port.inboundBegins_not_quiet h)
  · exact exec_clockGiven_eq hlow hgood edge high
  · exact exec_wires hlow rfl ((Port.requestToSend_begins hr ha h).trans (Port.beginAttempt_ready hr fromHeld))
  · exact exec_wires_idle hlow rfl (Port.requestToSend_waits h)
  · exact exec_wires hlow rfl (Port.startBit_holdPhase h)
  · exact exec_wires_idle hlow rfl (Port.startBit_else h)
  · exact exec_wires hlow rfl (Port.cutEnds_closing h)
  · exact exec_wires_idle hlow rfl (Port.cutEnds_else h)

/-! ## A whole frame (R108 to R110, R114, R121, Table 10-10) -/

theorem runAll_cons {s t : State} {i : Instr} (h : exec i s = .next t) (rest : List Instr) :
    runAll (i :: rest) s = runAll rest t := by
  rw [runAll, h]

theorem runAll_append {s t : State} {first : List Instr} (h : runAll first s = .next t) (rest : List Instr) :
    runAll (first ++ rest) s = runAll rest t := by
  induction first generalizing s with
  | nil => cases h; rfl
  | cons i first ih =>
    rw [runAll] at h
    rw [List.cons_append, runAll]
    cases hi : exec i s with
    | next u => rw [hi] at h; exact ih h
    | fault r => rw [hi] at h; cases h
    | refused r => rw [hi] at h; cases h

theorem clocked_cons (p : PortIx) (level : Bool) (levels : List Bool) :
    clocked p (level :: levels) = .clockGiven p .falling level :: .clockGiven p .rising level :: clocked p levels := rfl

theorem clocked_append (p : PortIx) (first rest : List Bool) :
    clocked p (first ++ rest) = clocked p first ++ clocked p rest := List.flatMap_append

/-- The tag that the receiving side samples in the bits of a frame (Table 10-10). -/
theorem sampledTag_frameBits (tag : Tag) (data : Byte) (rest : List Bool) :
    sampledTag (frameBits tag data ++ rest) = tag := by
  apply BitVec.eq_of_getLsbD_eq
  intro i hi
  simp only [sampledTag, BitVec.getLsbD_ofFnLE, hi, dif_pos]
  match i with
  | 0 | 1 | 2 => rfl

theorem sampledData_frameBits (tag : Tag) (data : Byte) (rest : List Bool) :
    sampledData (frameBits tag data ++ rest) = data := by
  apply BitVec.eq_of_getLsbD_eq
  intro i hi
  simp only [sampledData, BitVec.getLsbD_ofFnLE, hi, dif_pos]
  match i with
  | 0 | 1 | 2 | 3 | 4 | 5 | 6 | 7 => rfl

theorem frameBits_length (tag : Tag) (data : Byte) : (frameBits tag data).length = 14 := rfl

/-- The bits of a frame are a good frame: start 0, odd parity, stop 1 (R109). -/
theorem goodFrame_frameBits (tag : Tag) (data : Byte) : goodFrame (frameBits tag data) = true := by
  have htag := sampledTag_frameBits tag data []
  have hdata := sampledData_frameBits tag data []
  rw [List.append_nil] at htag hdata
  rw [goodFrame, htag, hdata]
  simp [frameBits]

/-- Fifteen levels whose first fourteen are a good frame are the bits of that frame and the slot's level. -/
theorem eq_frameBits_of_goodFrame {bits : List Bool} (hlen : bits.length = 15) (h : goodFrame (bits.take 14) = true) :
    ∃ level, bits = frameBits (sampledTag bits) (sampledData bits) ++ [level] := by
  match bits, hlen with
  | [b0, b1, b2, b3, b4, b5, b6, b7, b8, b9, b10, b11, b12, b13, b14], _ =>
    refine ⟨b14, ?_⟩
    generalize htag : sampledTag [b0, b1, b2, b3, b4, b5, b6, b7, b8, b9, b10, b11, b12, b13, b14] = tag
    generalize hdata : sampledData [b0, b1, b2, b3, b4, b5, b6, b7, b8, b9, b10, b11, b12, b13, b14] = data
    have htake : goodFrame [b0, b1, b2, b3, b4, b5, b6, b7, b8, b9, b10, b11, b12, b13] =
        (b0 == false && b12 == parityBit tag data && b13 == true) := by
      rw [← htag, ← hdata]; rfl
    obtain ⟨⟨rfl, rfl⟩, rfl⟩ : (b0 = false ∧ b12 = parityBit tag data) ∧ b13 = true := by
      simpa using htake.symm.trans h
    have htagBits : (List.range 3).map tag.getLsbD = [b1, b2, b3] := by
      rw [← htag]; simp [sampledTag, List.range_succ]
    have hdataBits : (List.range 8).map data.getLsbD = [b4, b5, b6, b7, b8, b9, b10, b11] := by
      rw [← hdata]; simp [sampledData, List.range_succ]
    rw [frameBits, htagBits, hdataBits]
    rfl

section
variable {s : State} {p : PortIx}

/-- An edge on a line that has done nothing else since `s`. -/
theorem exec_clock_lineDoes (hlow : s.rstnLow = false) {a b : Activity} {edge : Edge} {high : Bool}
    (h : ∀ pt : Port, pt.line.activity = a → pt.clock edge high = pt.withLine b pt.line.ready) :
    exec (.clockGiven p edge high) (s.lineDoes p a) = .next (s.lineDoes p b) := by
  have ha : (s.lineDoes p a).ports[p].line.activity = a := by rw [State.lineDoes_line]
  rw [exec_clockGiven (s := s.lineDoes p a) hlow (h _ ha), State.lineDoes_lineDoes]

/-- The clocks of an inbound frame sample DATA, one level each (R114). -/
theorem runAll_clocked_inbound (hlow : s.rstnLow = false) (levels bits : List Bool)
    (hb : bits.length + levels.length ≤ 15) :
    runAll (clocked p levels) (s.lineDoes p (.inbound bits false false)) =
      .next (s.lineDoes p (.inbound (bits ++ levels) false false)) := by
  induction levels generalizing bits with
  | nil => rw [List.append_nil]; rfl
  | cons level levels ih =>
    rw [List.length_cons] at hb
    rw [clocked_cons, runAll_cons (exec_clock_lineDoes hlow fun _ ha => Port.clock_inbound_falling ha (by omega) level),
      runAll_cons (exec_clock_lineDoes hlow fun _ ha => Port.clock_inbound_rising ha level),
      ih (bits ++ [level]) (by simp; omega), List.append_assoc]
    rfl

/-- A falling edge on a QUIET line where PREEMPT finds nothing to send, or does not apply (R114, R126). -/
theorem exec_clock_quiet (hlow : s.rstnLow = false) (hq : s.ports[p].line.state = .quiet)
    (hfree : s.ports[p].config.precedence = .yield ∨ s.ports[p].line.ready = none) (high : Bool) :
    exec (.clockGiven p .falling high) s = .next (s.lineDoes p (.inbound [] true false)) := by
  obtain ⟨ha, -⟩ := s.ports[p].line.state_quiet_iff.1 hq
  have hclock : s.ports[p].clock .falling high = s.ports[p].inboundBegins := by simp only [Port.clock, ha]
  exact exec_clockGiven hlow (hclock.trans (Port.inboundBegins_free hq hfree))

/-- A whole inbound frame, from its first falling edge on. -/
theorem runAll_clocked_quiet (hlow : s.rstnLow = false) (hq : s.ports[p].line.state = .quiet)
    (hfree : s.ports[p].config.precedence = .yield ∨ s.ports[p].line.ready = none) (level : Bool) (levels : List Bool)
    (hl : levels.length ≤ 14) :
    runAll (clocked p (level :: levels)) s = .next (s.lineDoes p (.inbound (level :: levels) false false)) := by
  rw [clocked_cons, runAll_cons (exec_clock_quiet hlow hq hfree level),
    runAll_cons (exec_clock_lineDoes hlow fun _ ha => Port.clock_inbound_rising ha level)]
  exact runAll_clocked_inbound hlow levels [level] (by simp; omega)

/-- The clocks of an attempt before the acknowledge slot count, and give no answer (R121). -/
theorem runAll_clocked_outbound (hlow : s.rstnLow = false) (levels : List Bool) (given : Nat)
    (hg : given + levels.length ≤ 14) :
    runAll (clocked p levels) (s.lineDoes p (.outbound given false false)) =
      .next (s.lineDoes p (.outbound (given + levels.length) false false)) := by
  induction levels generalizing given with
  | nil => rfl
  | cons level levels ih =>
    rw [List.length_cons] at hg
    have hslot : (decide (given + 1 = 15) && !level) = false := by simp; omega
    rw [clocked_cons, runAll_cons (exec_clock_lineDoes hlow fun _ ha => Port.clock_outbound_falling ha (by omega) level),
      runAll_cons (exec_clock_lineDoes hlow fun _ ha => Port.clock_outbound_rising ha level), hslot,
      ih (given + 1) (by omega), List.length_cons, Nat.add_right_comm, Nat.add_assoc]

/-- After its start bit an attempt counts the endpoint's clocks; CLK is then low in the next one (R121). -/
theorem runAll_clocked_awaitClock (hlow : s.rstnLow = false) (ha : s.ports[p].line.activity = .awaitClock)
    (levels : List Bool) (level : Bool) (hl : levels.length ≤ 14) :
    runAll (clocked p levels ++ [.clockGiven p .falling level]) s =
      .next (s.lineDoes p (.outbound levels.length true false)) := by
  cases levels with
  | nil => exact runAll_cons (exec_clockGiven hlow (Port.clock_awaitClock ha level)) []
  | cons first levels =>
    rw [List.length_cons] at hl
    have hslot : (decide (0 + 1 = 15) && !first) = false := rfl
    rw [clocked_cons, List.cons_append, runAll_cons (exec_clockGiven hlow (Port.clock_awaitClock ha first)),
      List.cons_append, runAll_cons (exec_clock_lineDoes hlow fun _ ha => Port.clock_outbound_rising ha first), hslot,
      runAll_append (runAll_clocked_outbound hlow levels (0 + 1) (by omega)),
      runAll_cons (exec_clock_lineDoes hlow fun _ ha => Port.clock_outbound_falling ha (by omega) level),
      List.length_cons, Nat.zero_add, Nat.add_comm]
    rfl

end

/-- In the low phase of clock `given + 1` the part has that bit of its frame on DATA (R121). -/
theorem Line.pullsData_outbound {l : Line} {given : Nat} {answered : Bool} {r : Ready}
    (ha : l.activity = .outbound given true answered) (hr : l.ready = some r) :
    l.pullsData = decide ((frameBits r.tag r.data)[given]? = some false) := by
  rw [Line.pullsData, ha, hr]
  exact Bool.eq_iff_iff.2 (by simp [clockOnData])

/-- The part pulls DATA low in the acknowledge slot of a good frame (R110). -/
theorem Line.pullsData_ack {l : Line} {tag : Tag} {data : Byte} {level : Bool}
    (ha : l.activity = .inbound (frameBits tag data ++ [level]) false false) : l.pullsData = true := by
  have htake : (frameBits tag data ++ [level]).take 14 = frameBits tag data := List.take_left' rfl
  rw [Line.pullsData, ha]
  simp [htake, goodFrame_frameBits, frameBits_length]

/-- Settles O52: clock by clock, from a QUIET line and from the start bit of an attempt. -/
theorem framesCrossTheWires : Obligations.FramesCrossTheWires := by
  unfold Obligations.FramesCrossTheWires
  intro s p hlow
  refine ⟨fun tag data level hq hfree => ⟨_, runAll_clocked_quiet hlow hq hfree false _ (by rfl), rfl, ?_, ?_⟩,
    fun r levels level ha hr => ⟨fun hl => ⟨_, runAll_clocked_awaitClock hlow ha levels level hl, rfl, ?_, ?_⟩,
      fun hl => ?_⟩⟩
  · exact Line.pullsData_ack (by rw [State.lineDoes_line]; rfl)
  · rw [State.lineDoes_line]; rfl
  · exact Line.pullsData_outbound (by rw [State.lineDoes_line]) (by rw [State.lineDoes_line]; exact hr)
  · rw [State.lineDoes_line]; rfl
  · rw [clocked_append, show clocked p [level] = [.clockGiven p .falling level] ++ [.clockGiven p .rising level] from rfl,
      ← List.append_assoc, runAll_append (runAll_clocked_awaitClock hlow ha levels level hl.le), hl,
      runAll_cons (exec_clock_lineDoes hlow fun _ ha => Port.clock_outbound_rising ha level)]
    rfl

end Sys2Proof.Machine
end

section
/-! PROOFS. The ends of frames and of attempts: what becomes of the port, its entries and its levels (O53, O54, O55). -/

namespace Sys2Proof.Machine

/-! ## The rules of a port, by name -/

/-- The rules of a port and its line, as PortInv has them. -/
structure PortLegal (pt : Port) : Prop where
  intakeRoom : pt.intake.length ≤ 4
  queueRoom : pt.queue.length ≤ 4
  attemptsRoom : pt.attempts ≤ 3
  intakeTags : ∀ f ∈ pt.intake, f.tag ≠ 7
  queueTags : ∀ e ∈ pt.queue, e.tag ≠ 7
  backpressure : pt.line.reasons.backpressure = true ↔ 3 ≤ pt.intake.length
  disabled : pt.line.reasons.disabled = true ↔ pt.presence = .disabled
  faulted : pt.line.reasons.faulted = true ↔ pt.presence = .faulted
  queuePresent : pt.presence ≠ .present → pt.queue = []
  intakeDisabled : pt.presence = .disabled → pt.intake = []
  attemptsNone : pt.queue = [] → pt.attempts = 0
  attemptsLeft : pt.line.attempting = false → pt.attempts < 3
  attemptsBegun : pt.line.attempting = true → pt.queue ≠ [] → 0 < pt.attempts
  preempt : pt.line.reasons.preempt = true → pt.line.ready.any (fun r => !r.probe) = true
  probeTimer : pt.probeTimer.isSome = true ↔ pt.presence = .absent
  probeDue : pt.probeDue = true → pt.presence = .absent
  silence : pt.silenceTimer.isSome = true → pt.presence = .present ∧ pt.config.silenceLimit ≠ 0 ∧
    pt.line.reasons.backpressure = false ∧ pt.line.attempting = false
  lineErrors : pt.lineErrorRun ≤ 8
  sendFailures : pt.sendFailureRun ≤ 4
  runs : pt.presence = .absent ∨ pt.presence = .present → pt.lineErrorRun < 8 ∧ pt.sendFailureRun < 4
  limit : silenceLimitOk pt.config.silenceLimit = true
  ready : pt.readyGood = true
  line : pt.line.good = true

theorem portInv_iff (pt : Port) : PortInv pt ↔ PortLegal pt := by
  constructor
  · rintro ⟨h1, h2, h3, h4, h5, h6, h7, h8, h9, h10, h11, h12, h13, h14, h15, h16, h17, h18, h19, h20, h21, h22, h23⟩
    exact ⟨h1, h2, h3, h4, h5, h6, h7, h8, h9, h10, h11, h12, h13, h14, h15, h16, h17, h18, h19, h20, h21, h22, h23⟩
  · rintro ⟨h1, h2, h3, h4, h5, h6, h7, h8, h9, h10, h11, h12, h13, h14, h15, h16, h17, h18, h19, h20, h21, h22, h23⟩
    exact ⟨h1, h2, h3, h4, h5, h6, h7, h8, h9, h10, h11, h12, h13, h14, h15, h16, h17, h18, h19, h20, h21, h22, h23⟩

namespace PortLegal

variable {pt : Port} (h : PortLegal pt)
include h

/-- A probe is handed over in ABSENT only, and is the probe frame (R134). -/
theorem absent_of_probe {r : Ready} (hr : pt.line.ready = some r) (hp : r.probe = true) : pt.presence = .absent := by
  have hgood := h.ready
  simp only [Port.readyGood, hr, hp, if_true, Bool.and_eq_true, beq_iff_eq] at hgood
  obtain ⟨⟨habsent, -⟩, -⟩ := hgood
  exact habsent

/-- Any other ready frame is the head entry of a PRESENT port (R146). -/
theorem head_of_ready {r : Ready} (hr : pt.line.ready = some r) (hp : r.probe = false) :
    pt.presence = .present ∧ ∃ e rest, pt.queue = e :: rest ∧ r = ⟨false, e.tag, e.data⟩ := by
  have hgood := h.ready
  obtain ⟨probe, tag, data⟩ := r
  simp only at hp
  subst hp
  simp only [Port.readyGood, hr, Bool.false_eq_true, if_false, Bool.and_eq_true, beq_iff_eq] at hgood
  obtain ⟨hpresent, hhead⟩ := hgood
  refine ⟨hpresent, ?_⟩
  cases hq : pt.queue with
  | nil => simp [hq] at hhead
  | cons e rest =>
    obtain ⟨rfl, rfl⟩ : tag = e.tag ∧ data = e.data := by simpa [hq] using hhead
    exact ⟨e, rest, rfl, rfl⟩

/-- PREEMPT stands for an entry, so in PRESENT only (R126). -/
theorem preempt_absent (hp : pt.presence ≠ .present) : pt.line.reasons.preempt = false := by
  rw [← Bool.not_eq_true]
  intro hpreempt
  obtain ⟨r, hr, hprobe⟩ := (Option.any_eq_true _ _).1 (h.preempt hpreempt)
  exact hp (h.head_of_ready hr (by simpa using hprobe)).1

/-- Outside ABSENT and PRESENT no frame is ready. -/
theorem ready_none (hp : pt.presence = .disabled ∨ pt.presence = .faulted) : pt.line.ready = none := by
  cases hr : pt.line.ready with
  | none => rfl
  | some r =>
    cases hprobe : r.probe with
    | true => have := h.absent_of_probe hr hprobe; simp [this] at hp
    | false => have := (h.head_of_ready hr hprobe).1; simp [this] at hp

/-- While BACKPRESSURE stands the silence timer is stopped (R136). -/
theorem silence_stopped (hb : pt.line.reasons.backpressure = true) : pt.silenceTimer = none := by
  rw [← Option.not_isSome_iff_eq_none]
  intro hs
  obtain ⟨-, -, hfree, -⟩ := h.silence hs
  simp [hb] at hfree

end PortLegal

/-! ## A port that changes presence while other rows act on it -/

section
variable (s : State) (p : PortIx) (f : Port → Port)

theorem State.onPort_enterPresent (ha : (f s.ports[p]).line.attempting = false)
    (hp : (f s.ports[p]).line.reasons.preempt = false) :
    (s.onPort p f).enterPresent p =
      { s with
        ports := update s.ports p fun pt => (f pt).arrives
        arbiter := s.arbiter.assertedAt (f s.ports[p]).config.presenceLevel (.presence p) 1 s.timer } := by
  rw [← s.onPort_self p f] at ha hp
  rw [State.enterPresent_eq _ p ha hp, s.onPort_self p f, State.onPort_ports, update_update]
  rfl

theorem State.onPort_enterFaulted (code : Byte) {g : Port → Port} (ha : (f s.ports[p]).line.activity = .none)
    (hg : (f s.ports[p]).faults = g s.ports[p]) :
    (s.onPort p f).enterFaulted p code =
      { s with
        ports := update s.ports p g
        trunk := s.trunk.resulted p .portFaulted (f s.ports[p]).attempts (f s.ports[p]).queue
        arbiter := s.arbiter.assertedAt (f s.ports[p]).config.faultLevel (.portFault p) code s.timer } := by
  rw [← s.onPort_self p f] at ha
  rw [State.enterFaulted_eq _ p code ha, s.onPort_self p f, State.onPort_ports, update_update,
    ← update_congr s.ports p (f := Port.faults ∘ f) hg]
  rfl

end

/-! ## The end of an inbound frame (R115, R118, R119) -/

section
variable {s : State} {p : PortIx} {bits : List Bool} {low : Bool}

theorem State.inboundEnds_dropped (ha : s.ports[p].line.activity = .inbound bits low true) (hb : bits.length = 15) :
    s.inboundEnds p = s.lineDoes p .none := by
  simp only [State.inboundEnds, ha, hb, Nat.lt_irrefl, if_false, if_true]
  rfl

theorem State.inboundEnds_good {tag : Tag} {data : Byte} {level : Bool}
    (ha : s.ports[p].line.activity = .inbound (frameBits tag data ++ [level]) low false) :
    s.inboundEnds p = (s.lineDoes p .none).receivedFrame p tag data := by
  have hlen : (frameBits tag data ++ [level]).length = 15 := rfl
  have htake : (frameBits tag data ++ [level]).take 14 = frameBits tag data := List.take_left' rfl
  simp only [State.inboundEnds, ha, hlen, htake, goodFrame_frameBits, sampledTag_frameBits, sampledData_frameBits,
    Nat.lt_irrefl, if_false, if_true, Bool.false_eq_true]
  rfl

/-- Fifteen levels that are no frame are a line error (R115). -/
theorem State.inboundEnds_bad (ha : s.ports[p].line.activity = .inbound bits low false) (hb : bits.length = 15)
    (hbad : ∀ tag data level, bits ≠ frameBits tag data ++ [level]) :
    s.inboundEnds p = (s.lineDoes p .none).lineError p := by
  have hgood : goodFrame (bits.take 14) = false := by
    rw [← Bool.not_eq_true]
    intro hgood
    obtain ⟨level, heq⟩ := eq_frameBits_of_goodFrame hb hgood
    exact hbad _ _ _ heq
  simp only [State.inboundEnds, ha, hb, hgood, Nat.lt_irrefl, if_false, Bool.false_eq_true]
  rfl

theorem State.inboundBreaks_dropped (ha : s.ports[p].line.activity = .inbound bits low true) (hb : bits.length < 15) :
    s.inboundBreaks p = s.lineDoes p .none := by
  simp only [State.inboundBreaks, ha, hb, if_true]
  rfl

theorem State.inboundBreaks_counted (ha : s.ports[p].line.activity = .inbound bits low false) (hb : bits.length < 15) :
    s.inboundBreaks p = (s.lineDoes p .none).lineError p := by
  simp only [State.inboundBreaks, ha, hb, if_true, if_false, Bool.false_eq_true]
  rfl

end

/-! ## A frame that is received (R133, R135, R140 to R142) -/

/-- A port counts a frame received (R140). -/
def Port.countReceived (pt : Port) : Port :=
  { pt with stats := { pt.stats with framesReceived := satInc pt.stats.framesReceived } }

/-- Outside DISABLED, tag 7 sets the endpoint type and another tag joins the intake (R135, R141). -/
def Port.keeps (pt : Port) (tag : Tag) (data : Byte) (time : Word) : Port :=
  if tag = 7 then { pt with endpointType := some data } else pt.receives ⟨tag, data, time⟩

theorem Port.arrives_stopped {pt : Port} (hb : pt.line.reasons.backpressure = true) :
    pt.arrives.silenceTimer = none := by
  simp [Port.arrives, hb]

theorem Port.fullSilence_stopped {pt : Port} (hb : pt.line.reasons.backpressure = true) : pt.fullSilence = none := by
  simp [Port.fullSilence, hb]

/-- A port with nothing in progress on its line keeps a frame as the model's operations do. -/
theorem Port.keeps_eq {pt : Port} (ha : pt.line.activity = .none)
    (hb : pt.line.reasons.backpressure = true ↔ 3 ≤ pt.intake.length)
    (hs : pt.line.reasons.backpressure = true → pt.silenceTimer = none) (tag : Tag) (data : Byte) (time : Word) :
    (if tag = 7 then { pt with endpointType := some data } else pt.joinIntake ⟨tag, data, time⟩) =
      pt.keeps tag data time := by
  rw [Port.keeps, pt.joinIntake_eq _ ha hb hs]

section
variable {s : State} {p : PortIx} (tag : Tag) (data : Byte)

theorem State.receivedFrame_disabled (hp : s.ports[p].presence = .disabled) :
    s.receivedFrame p tag data = s.onPort p fun pt =>
      if tag = 7 then pt.countReceived
      else { pt.countReceived with stats :=
        { pt.countReceived.stats with framesLost := satInc pt.countReceived.stats.framesLost } } := by
  simp only [State.receivedFrame, hp]
  split_ifs
  · rfl
  · exact s.onPort_onPort p _ _

variable (ha : s.ports[p].line.activity = .none) (h : PortLegal s.ports[p])
include ha h

/-- The first frame brings an ABSENT port to PRESENT, and is kept (R133). -/
theorem State.receivedFrame_absent (hp : s.ports[p].presence = .absent) :
    s.receivedFrame p tag data =
      { s with
        ports := update s.ports p fun pt => pt.countReceived.arrives.keeps tag data s.timer
        arbiter := s.arbiter.assertedAt s.ports[p].config.presenceLevel (.presence p) 1 s.timer } := by
  have hattempting : s.ports[p].countReceived.line.attempting = false := by
    simp only [Port.countReceived, Line.attempting, ha]
  have hpreempt : s.ports[p].countReceived.line.reasons.preempt = false := h.preempt_absent (by simp only [hp]; decide)
  have hkeeps := Port.keeps_eq (pt := s.ports[p].countReceived.arrives) ha h.backpressure Port.arrives_stopped tag data
    s.timer
  simp only [State.receivedFrame, hp]
  show ((s.onPort p Port.countReceived).enterPresent p).onPort p _ = _
  rw [s.onPort_enterPresent p _ hattempting hpreempt, State.onPort, update_update]
  exact congrArg (State.withPorts _) (update_congr _ p hkeeps)

/-- In PRESENT a good frame ends the line-error run and starts the silence timer in full (R136, R138). -/
theorem State.receivedFrame_present (hp : s.ports[p].presence = .present) :
    s.receivedFrame p tag data = s.onPort p fun pt =>
      { pt.countReceived with lineErrorRun := 0, silenceTimer := pt.fullSilence }.keeps tag data s.timer := by
  have hstart : { s.ports[p].countReceived with lineErrorRun := 0 }.startSilence =
      { s.ports[p].countReceived with lineErrorRun := 0, silenceTimer := s.ports[p].fullSilence } :=
    Port.startSilence_eq _ (by simp only [Port.countReceived, Line.attempting, ha])
  have hkeeps := Port.keeps_eq
    (pt := { s.ports[p].countReceived with lineErrorRun := 0, silenceTimer := s.ports[p].fullSilence }) ha
    h.backpressure Port.fullSilence_stopped tag data s.timer
  rw [← hstart] at hkeeps
  simp only [State.receivedFrame, hp]
  rw [s.onPort_onPort]
  refine s.onPort_congr p ?_
  rw [← hstart]
  exact hkeeps

theorem State.receivedFrame_faulted (hp : s.ports[p].presence = .faulted) :
    s.receivedFrame p tag data = s.onPort p fun pt => pt.countReceived.keeps tag data s.timer := by
  have hkeeps := Port.keeps_eq (pt := s.ports[p].countReceived) ha h.backpressure h.silence_stopped tag data s.timer
  simp only [State.receivedFrame, hp]
  rw [s.onPort_onPort]
  exact s.onPort_congr p hkeeps

end

/-- An inbound frame that ends leaves its port in its rules. -/
theorem PortLegal.endInbound {pt : Port} (h : PortLegal pt) {bits : List Bool} {low gone : Bool}
    (ha : pt.line.activity = .inbound bits low gone) :
    PortLegal { pt with line := { pt.line with activity := .none } } :=
  have hidle : pt.line.attempting = false := by simp only [Line.attempting, ha]
  { h with
    attemptsLeft := fun _ => h.attemptsLeft hidle
    attemptsBegun := fun hbegun => by cases hbegun
    silence := fun hs =>
      have ⟨hpresent, hlimit, hfree, _⟩ := h.silence hs
      ⟨hpresent, hlimit, hfree, rfl⟩
    line := rfl }

/-- INBOUND_FRAME of a good frame hands it to its port with the line at rest. -/
theorem exec_inboundFrame_good {s : State} {p : PortIx} {tag : Tag} {data : Byte} {level : Bool}
    (hlow : s.rstnLow = false)
    (ha : s.ports[p].line.activity = .inbound (frameBits tag data ++ [level]) false false) :
    exec (.inboundFrame p) s = .next ((s.lineDoes p .none).receivedFrame p tag data) :=
  exec_running hlow rfl (State.inboundEnds_good ha)

/-- Settles O53: the port is in its rules when the frame has ended, and keeps it as its presence state says. -/
theorem goodFramesReachTheirPort : Obligations.GoodFramesReachTheirPort := by
  unfold Obligations.GoodFramesReachTheirPort
  intro s p tag data level hlow hinv
  refine ⟨fun ha => ?_, fun bits ha hb => exec_running hlow rfl (State.inboundEnds_dropped ha hb)⟩
  have hport : (s.lineDoes p .none).ports[p] = { s.ports[p] with line := { s.ports[p].line with activity := .none } } :=
    s.onPort_self p _
  have hidle : (s.lineDoes p .none).ports[p].line.activity = .none := by rw [hport]
  have hended : PortLegal (s.lineDoes p .none).ports[p] := by
    rw [hport]; exact PortLegal.endInbound ((portInv_iff _).1 hinv) ha
  rw [exec_inboundFrame_good hlow ha]
  refine ⟨fun hp => ?_, fun hp => ?_, fun hp => ?_, fun hp => ?_⟩
  · rw [State.receivedFrame_disabled tag data (by rw [hport]; exact hp), State.lineDoes, State.onPort_onPort]
    rfl
  · rw [State.receivedFrame_absent tag data hidle hended (by rw [hport]; exact hp), hport, State.lineDoes,
      State.onPort_ports, update_update]
    rfl
  · rw [State.receivedFrame_present tag data hidle hended (by rw [hport]; exact hp), State.lineDoes,
      State.onPort_onPort]
    rfl
  · rw [State.receivedFrame_faulted tag data hidle hended (by rw [hport]; exact hp), State.lineDoes,
      State.onPort_onPort]
    rfl

/-! ## A line error (R138, R139) -/

/-- A port counts a line error (R140). -/
def Port.countLineError (pt : Port) : Port :=
  { pt with stats := { pt.stats with lineErrors := satInc pt.stats.lineErrors } }

/-- In ABSENT and PRESENT a line error advances the run too (R138). -/
def Port.advanceRun (pt : Port) : Port := { pt.countLineError with lineErrorRun := pt.lineErrorRun + 1 }

section
variable {s : State} {p : PortIx}

theorem State.lineError_counted (hp : s.ports[p].presence = .disabled ∨ s.ports[p].presence = .faulted) :
    s.lineError p = s.onPort p Port.countLineError := by
  rcases hp with hp | hp <;> simp only [State.lineError, hp] <;> rfl

/-- The run that is one longer, whichever of the two presence states the port is in. -/
theorem State.lineError_run (hp : s.ports[p].presence = .absent ∨ s.ports[p].presence = .present) :
    s.lineError p =
      if 8 ≤ s.ports[p].lineErrorRun + 1 then (s.onPort p Port.advanceRun).enterFaulted p 1
      else s.onPort p Port.advanceRun := by
  have hadvance : (s.onPort p Port.countLineError).onPort p
      (fun pt => { pt with lineErrorRun := s.ports[p].lineErrorRun + 1 }) = s.onPort p Port.advanceRun := by
    rw [s.onPort_onPort]
    exact s.onPort_congr p rfl
  rw [← hadvance]
  rcases hp with hp | hp <;> simp only [State.lineError, hp] <;> rfl

theorem State.lineError_advances (hp : s.ports[p].presence = .absent ∨ s.ports[p].presence = .present)
    (hrun : s.ports[p].lineErrorRun < 7) : s.lineError p = s.onPort p Port.advanceRun := by
  rw [State.lineError_run hp, if_neg (by omega)]

/-- The eighth line error in a row faults a port whose line is at rest (R138, R139). -/
theorem State.lineError_faults (hp : s.ports[p].presence = .absent ∨ s.ports[p].presence = .present)
    (hrun : s.ports[p].lineErrorRun = 7) (ha : s.ports[p].line.activity = .none) :
    s.lineError p =
      { s with
        ports := update s.ports p fun pt => pt.advanceRun.faults
        trunk := s.trunk.resulted p .portFaulted s.ports[p].attempts s.ports[p].queue
        arbiter := s.arbiter.assertedAt s.ports[p].config.faultLevel (.portFault p) 1 s.timer } := by
  rw [State.lineError_run hp, if_pos (by omega),
    s.onPort_enterFaulted p Port.advanceRun 1 (g := fun pt => pt.advanceRun.faults) ha rfl]
  rfl

/-- What a row that ends a bad frame, or breaks one, comes to. -/
theorem exec_lineError {i : Instr} {bits : List Bool} {low gone : Bool} (hlow : s.rstnLow = false)
    (ha : s.ports[p].line.activity = .inbound bits low gone)
    (hi : (i = .inboundFrame p ∧ bits.length = 15 ∧ ∀ tag data level, bits ≠ frameBits tag data ++ [level]) ∨
      (i = .frameBroken p ∧ bits.length < 15)) :
    exec i s = .next (if gone = true then s.lineDoes p .none else (s.lineDoes p .none).lineError p) := by
  rcases hi with ⟨rfl, hb, hbad⟩ | ⟨rfl, hb⟩ <;> cases gone
  · exact exec_running hlow rfl (State.inboundEnds_bad ha hb hbad)
  · exact exec_running hlow rfl (State.inboundEnds_dropped ha hb)
  · exact exec_running hlow rfl (State.inboundBreaks_counted ha hb)
  · exact exec_running hlow rfl (State.inboundBreaks_dropped ha hb)

end

/-- Settles O54: both rows are one line error on a line at rest, which its run decides. -/
theorem lineErrorsAreCounted : Obligations.LineErrorsAreCounted := by
  unfold Obligations.LineErrorsAreCounted
  intro s p i bits low gone hlow _ ha hi
  have hport : (s.lineDoes p .none).ports[p] = { s.ports[p] with line := { s.ports[p].line with activity := .none } } :=
    s.onPort_self p _
  rw [exec_lineError hlow ha hi]
  refine ⟨fun hgone => ?_, fun hgone hp => ?_, fun hgone hp => ⟨fun hrun => ?_, fun hrun => ?_⟩⟩
  · rw [if_pos hgone]; rfl
  all_goals rw [if_neg (by simp [hgone])]
  · rw [State.lineError_counted (by rw [hport]; exact hp), State.lineDoes, State.onPort_onPort]
    rfl
  · rw [State.lineError_advances (by rw [hport]; exact hp) (by rw [hport]; exact hrun), State.lineDoes,
      State.onPort_onPort]
    rfl
  · rw [State.lineError_faults (by rw [hport]; exact hp) (by rw [hport]; exact hrun) (by rw [hport]), hport,
      State.lineDoes, State.onPort_ports, update_update]
    rfl

/-! ## The end of an attempt (R121, R122, R146, R147) -/

/-- The outcome of an entry whose third attempt ends so (R147). -/
def AttemptResult.failure : AttemptResult → SendOutcome
  | .noResponse => .failedSilent
  | _ => .failedNak

/-- An attempt has left the line: no frame is in progress or ready, and the silence timer starts in full (R113, R136). -/
def Port.attemptOver (pt : Port) : Port :=
  { pt with line := ⟨.none, pt.line.reasons, none⟩, silenceTimer := pt.fullSilence }

/-- The head of what is left of the queue is handed to a line at rest (R146). -/
def Port.nextHead (pt : Port) (queue : List TxEntry) : Port :=
  { pt with queue := queue, attempts := 0, line := ⟨.none, pt.line.reasons, readyHead queue⟩ }

/-- A PRESENT port whose line is at rest, with this queue. -/
structure Port.AtRest (pt : Port) (queue : List TxEntry) : Prop where
  presence : pt.presence = .present
  activity : pt.line.activity = .none
  ready : pt.line.ready = none
  queue : pt.queue = queue

/-- A line at rest is handed the head of the queue, if there is one; PREEMPT finds no inbound frame. -/
theorem Port.AtRest.handHead {pt : Port} {queue : List TxEntry} (h : pt.AtRest queue) :
    pt.handHead = { pt with queue := queue, line := ⟨.none, pt.line.reasons, readyHead queue⟩ } := by
  obtain ⟨hp, ha, hr, rfl⟩ := h
  cases hq : pt.queue with
  | nil =>
    rw [pt.handHead_nothing (.inr hq), readyHead, List.head?_nil, Option.map_none, ← ha, ← hr, ← hq]
  | cons e rest =>
    rw [pt.handHead_present hp hq hr, ha, Port.testPreempt_eq _ (.inr rfl), Port.preempted, if_neg]
    · simp [Port.withLine, readyHead, hq]
    · rintro ⟨-, -, hcommit⟩
      cases hcommit

section
variable {s : State} {p : PortIx}

/-- The two rows end an attempt, each with the result that belongs to it. -/
theorem AttemptEnding.exec {i : Instr} {answered : Bool} {failure : SendOutcome} (hlow : s.rstnLow = false)
    (h : AttemptEnding s p i answered failure) :
    ∃ result : AttemptResult, exec i s = .next (s.attemptEnds p result) ∧
      (answered = true → result = .ack) ∧ (answered = false → result ≠ .ack ∧ failure = result.failure) := by
  rcases h with ⟨rfl, rfl, low, ha⟩ | ⟨rfl, rfl, rfl, ha⟩
  · refine ⟨if answered then .ack else .nak, exec_running hlow rfl ?_, fun h => by simp [h],
      fun h => by simp [h, AttemptResult.failure]⟩
    simp only [State.attemptSlotEnds, ha, Nat.lt_irrefl, if_false]
  · refine ⟨.noResponse, exec_running hlow rfl ?_, by simp, fun _ => ⟨by simp, rfl⟩⟩
    rcases ha with ha | ⟨given, low, a, hg, ha⟩
    · simp only [State.attemptTimesOut, ha]
    · simp only [State.attemptTimesOut, ha, hg, if_true]

theorem AttemptEnding.attempting {i : Instr} {answered : Bool} {failure : SendOutcome}
    (h : AttemptEnding s p i answered failure) : s.ports[p].line.attempting = true := by
  unfold Line.attempting
  rcases h with ⟨-, -, low, ha⟩ | ⟨-, -, -, ha | ⟨given, low, a, -, ha⟩⟩ <;> rw [ha]

/-! ### The outcome of the head entry, on a line at rest (R146, R147) -/

/-- The port once its head entry has been delivered. -/
def Port.delivered (pt : Port) (rest : List TxEntry) : Port :=
  { pt.nextHead rest with
    sendFailureRun := 0
    stats := { pt.stats with framesSent := satInc pt.stats.framesSent } }

/-- The port once its head entry has failed. -/
def Port.failed (pt : Port) (rest : List TxEntry) : Port :=
  { pt.nextHead rest with
    sendFailureRun := pt.sendFailureRun + 1
    stats := { pt.stats with sendFailures := satInc pt.stats.sendFailures } }

section
variable {e : TxEntry} {rest : List TxEntry} (h : s.ports[p].AtRest (e :: rest))
include h

theorem State.headOutcome_delivered :
    s.headOutcome p .ack =
      { s with
        ports := update s.ports p fun pt => pt.delivered rest
        trunk := s.trunk.resulted p .delivered s.ports[p].attempts [e] } := by
  simp only [State.headOutcome, h.queue, State.deliverHead, State.queueResult_eq]
  exact State.onPort_congr _ p (g := fun pt => pt.delivered rest)
    (Port.AtRest.handHead ⟨h.presence, h.activity, h.ready, congrArg List.tail h.queue⟩)

variable {result : AttemptResult} (hr : result ≠ .ack)
include hr

/-- Below three attempts an entry that was not answered is handed over again (R146). -/
theorem State.headOutcome_again (hn : s.ports[p].attempts < 3) :
    s.headOutcome p result = s.onPort p fun pt => { pt.nextHead (e :: rest) with attempts := pt.attempts } := by
  have hagain : s.headOutcome p result = s.onPort p Port.handHead := by
    cases result with
    | ack => exact absurd rfl hr
    | _ => simp only [State.headOutcome, h.queue, Config.maxAttempts, hn, if_true]
  rw [hagain]
  exact s.onPort_congr p h.handHead

/-- The third attempt that was not answered fails (R147). -/
theorem State.headOutcome_fails (hn : s.ports[p].attempts = 3) :
    s.headOutcome p result = s.failHead p result.failure e := by
  cases result with
  | ack => exact absurd rfl hr
  | _ => simp only [State.headOutcome, h.queue, Config.maxAttempts, hn, Nat.lt_irrefl, if_false]; rfl

theorem State.headOutcome_failed (hn : s.ports[p].attempts = 3) (hrun : s.ports[p].sendFailureRun < 3) :
    s.headOutcome p result =
      { s with
        ports := update s.ports p fun pt => pt.failed rest
        trunk := s.trunk.resulted p result.failure 3 [e] } := by
  have hlimit : ¬ Config.sendFailureLimit ≤ s.ports[p].sendFailureRun + 1 := by
    simp only [Config.sendFailureLimit]; omega
  rw [State.headOutcome_fails h hr hn]
  simp only [State.failHead, State.queueResult_eq, hn, if_neg hlimit]
  rw [State.onPort_onPort]
  exact State.onPort_congr _ p (g := fun pt => pt.failed rest)
    (Port.AtRest.handHead ⟨h.presence, h.activity, h.ready, congrArg List.tail h.queue⟩)

/-- The fourth failure in a row faults the port, and the rest of its queue leaves (R138, R139). -/
theorem State.headOutcome_faults (hn : s.ports[p].attempts = 3) (hrun : s.ports[p].sendFailureRun = 3) :
    s.headOutcome p result =
      { s with
        ports := update s.ports p fun pt => (pt.failed rest).faults
        trunk := (s.trunk.resulted p result.failure 3 [e]).resulted p .portFaulted 0 rest
        arbiter := s.arbiter.assertedAt s.ports[p].config.faultLevel (.portFault p) 2 s.timer } := by
  have hlimit : Config.sendFailureLimit ≤ s.ports[p].sendFailureRun + 1 := by
    simp only [Config.sendFailureLimit]; omega
  rw [State.headOutcome_fails h hr hn]
  simp only [State.failHead, State.queueResult_eq, hn, if_pos hlimit]
  rw [State.onPort_enterFaulted _ p _ _ (g := fun pt => (pt.failed rest).faults) h.activity
    (by simp only [Port.faults, Port.failed, Port.nextHead, State.withTrunk_ports, h.activity])]
  simp only [State.withTrunk_ports, h.queue, List.tail_cons]
  rfl

end

/-! ### The line hands over the outcome (R113, R134, R146) -/

theorem Port.attemptOver_eq : (fun pt : Port => (pt.withLine .none none).startSilence) = Port.attemptOver := by
  funext pt
  exact Port.startSilence_eq _ rfl

section
variable {r : Ready} (hready : s.ports[p].line.ready = some r)
include hready

theorem State.attemptEnds_entry (hr : r.probe = false) (result : AttemptResult) :
    s.attemptEnds p result = (s.onPort p Port.attemptOver).headOutcome p result := by
  simp only [State.attemptEnds, Port.attemptOver_eq, hready, hr, Bool.false_eq_true, if_false]

/-- A probe that was not answered ends, and nothing else happens (R134). -/
theorem State.attemptEnds_probe (hr : r.probe = true) {result : AttemptResult} (h : result ≠ .ack) :
    s.attemptEnds p result = s.onPort p Port.attemptOver := by
  simp only [State.attemptEnds, Port.attemptOver_eq, hready, hr, h, false_and, if_true, if_false]

/-- A probe that is answered brings its port to PRESENT (R133, R134). -/
theorem State.attemptEnds_answered (hr : r.probe = true) (hp : s.ports[p].presence = .absent)
    (hpreempt : s.ports[p].line.reasons.preempt = false) :
    s.attemptEnds p .ack =
      { s with
        ports := update s.ports p fun pt => pt.attemptOver.arrives
        arbiter := s.arbiter.assertedAt s.ports[p].config.presenceLevel (.presence p) 1 s.timer } := by
  simp only [State.attemptEnds, Port.attemptOver_eq, hready, hr, hp, and_self, if_true]
  exact s.onPort_enterPresent p Port.attemptOver rfl hpreempt

end

end

/-- Settles O55: the probe or the head entry is over, and the outcome of the entry is said on a line at rest. -/
theorem attemptsEnd : Obligations.AttemptsEnd := by
  unfold Obligations.AttemptsEnd
  intro s p i r answered failure hlow hinv hready hend
  have h := (portInv_iff _).1 hinv
  obtain ⟨result, hexec, hack, hnot⟩ := hend.exec hlow
  have hover : (s.onPort p Port.attemptOver).ports[p] = s.ports[p].attemptOver := s.onPort_self p _
  rw [hexec]
  refine ⟨fun hr ha => ?_, fun hr ha => ?_, fun e rest hr hq => ?_⟩
  · have habsent := h.absent_of_probe hready hr
    rw [hack ha, State.attemptEnds_answered hready hr habsent (h.preempt_absent (by simp only [habsent]; decide))]
    rfl
  · rw [State.attemptEnds_probe hready hr (hnot ha).1]
    rfl
  · rw [State.attemptEnds_entry hready hr]
    have hrest : (s.onPort p Port.attemptOver).ports[p].AtRest (e :: rest) := by
      rw [hover]
      exact ⟨(h.head_of_ready hready hr).1, rfl, rfl, hq⟩
    refine ⟨fun ha => ?_, fun ha hn => ?_, fun ha hn => ⟨fun hrun => ?_, fun hrun => ?_⟩⟩
    · rw [hack ha, State.headOutcome_delivered hrest, hover, State.onPort_ports, update_update]
      rfl
    all_goals obtain ⟨hresult, rfl⟩ := hnot ha
    · rw [State.headOutcome_again hrest hresult (by rw [hover]; exact hn), State.onPort_onPort]
      rfl
    · rw [State.headOutcome_failed hrest hresult (by rw [hover]; exact hn) (by rw [hover]; exact hrun),
        State.onPort_ports, update_update]
      rfl
    · rw [State.headOutcome_faults hrest hresult (by rw [hover]; exact hn) (by rw [hover]; exact hrun), hover,
        State.onPort_ports, update_update]
      rfl

end Sys2Proof.Machine
end

section
/-! PROOFS. SEND, CONFIGURE_PORT, READ_PORT, and PORT_CONTROL ENABLE and DISABLE (O47, O48, O50). -/

namespace Sys2Proof.Machine

@[simp] theorem index?_port (p : PortIx) : index? 8 (indexByte p) = some p := index?_indexByte (by decide) p

theorem PortLegal.settled {pt : Port} (h : PortLegal pt) : pt.Settled := Port.settled_of_inv ((portInv_iff pt).2 h)

/-! ## SEND (R143 to R146, R183) -/

/-- A port whose queue an entry has joined: at the head it is handed to the line, and PREEMPT is tested (R143, R146). -/
def Port.entered (pt : Port) (e : TxEntry) : Port :=
  if pt.queue = [] then
    { pt with queue := [e], line := { pt.line with ready := some ⟨false, e.tag, e.data⟩ } }.preempted
  else { pt with queue := pt.queue ++ [e] }

theorem Port.Settled.joinQueue_eq {pt : Port} (h : pt.Settled) (hp : pt.presence = .present) (e : TxEntry) :
    pt.joinQueue e = pt.entered e := by
  unfold Port.joinQueue Port.entered
  by_cases hq : pt.queue = []
  · have hfirst : pt.queue ++ [e] = [e] := by rw [hq]; rfl
    rw [if_pos hq, hfirst, Port.handHead_present { pt with queue := [e] } hp rfl ((h.ready hp).2 hq)]
    exact Port.testPreempt_eq _ h.held
  · rw [if_neg hq]
    exact Port.handHead_nothing _ (.inl fun hr => hq ((h.ready hp).1 hr))

/-- A SEND that is admitted, by what its body gives. -/
theorem exec_send_replied {s t : State} {sequence port tag data confirm : Byte} {status : Status} {result : List Byte}
    (h : s.Admits sequence) (hb : cmdSend sequence port tag data confirm s.heard = ⟨t, status, result, none⟩) :
    exec (.send sequence port tag data confirm) s = .next (t.repliedToSend sequence status result) := by
  obtain ⟨hears, hroom, hnew⟩ := h
  show Host.Outcome.next (s.onMessage _) = _
  rw [s.onMessage_heard hears, s.heard.sequenced_admitted _ _ _ hroom hnew, hb]
  rfl

section
variable (s : State) (sequence : Byte)

/-- A byte out of its range is refused before anything else is looked at (R144, R195). -/
theorem cmdSend_range {port tag data confirm : Byte} (h : 7 < port.toNat ∨ 6 < tag.toNat ∨ 1 < confirm.toNat) :
    cmdSend sequence port tag data confirm s = refuse s .range := by
  unfold cmdSend
  by_cases hport : port.toNat < 8
  · rw [inRange_some s _ (index?_some hport)]
    by_cases htag : tag.toNat ≤ 6
    · obtain ⟨t, ht⟩ := Option.isSome_iff_exists.1 ((tag?_isSome tag).2 htag)
      have hconfirm : (setting? confirm).isSome = false := by
        rw [← Bool.not_eq_true, setting?_isSome]; omega
      rw [inRange_some s _ ht, inRange_none s _ hconfirm]
    · rw [inRange_none]
      rwa [← Bool.not_eq_true, tag?_isSome]
  · rw [inRange_none]
    rw [← Bool.not_eq_true, index?_isSome]; omega

variable (p : PortIx) {tag : Tag} (data : Byte) (confirm : Bool) (ht : tag ≠ 7)
include ht

/-- The checks of a SEND whose bytes are in range, in their order (R144). -/
theorem cmdSend_inRange (h : PortLegal s.ports[p]) :
    cmdSend sequence (indexByte p) (tag.setWidth 8) data (settingByte confirm) s =
      if s.ports[p].presence ≠ .present then refuse s .notReady
      else if s.ports[p].queue.length = 4 then refuse s .queueFull
      else if confirm = true ∧ 14 < s.trunk.control.length + s.trunk.reservations then refuse s .noReserve
      else answerOk { s with
        ports := update s.ports p fun pt => pt.entered ⟨tag, data, if confirm = true then some sequence else none⟩
        trunk := { s.trunk with
          reservations := if confirm = true then s.trunk.reservations + 1 else s.trunk.reservations } }
        [BitVec.ofNat 8 (s.ports[p].queue.length + 1)] := by
  have hfull : Config.portEntries ≤ s.ports[p].queue.length ↔ s.ports[p].queue.length = 4 := by
    have := h.queueRoom
    simp only [Config.portEntries]; omega
  have hreserve : Config.controlEntries < s.trunk.load + 2 ↔ 14 < s.trunk.control.length + s.trunk.reservations := by
    simp only [Config.controlEntries, Trunk.load]; omega
  simp only [cmdSend, index?_port, tag?_setWidth ht, setting?_settingByte, inRange, hfull, hreserve]
  split_ifs with hpresence hqueue hlane
  · rfl
  · rfl
  · rfl
  all_goals
    have hjoin (e : TxEntry) : s.onPort p (fun pt => pt.joinQueue e) = s.onPort p fun pt => pt.entered e :=
      s.onPort_congr p (h.settled.joinQueue_eq (not_not.1 hpresence) e)
    rw [hjoin]
    rfl

end

/-- Settles O50: the checks in their order, on the state that has heard the message. -/
theorem sendsAreCheckedAndQueued : Obligations.SendsAreCheckedAndQueued := by
  unfold Obligations.SendsAreCheckedAndQueued
  intro s sequence h
  refine ⟨fun port tag data confirm hrange => exec_send_replied h (cmdSend_range s.heard sequence hrange),
    fun p tag data confirm ht hinv => ?_⟩
  have hsend := cmdSend_inRange s.heard sequence p data confirm ht ((portInv_iff _).1 hinv)
  by_cases hpresence : s.ports[p].presence ≠ .present
  · rw [if_pos hpresence]
    exact exec_send_replied h (hsend.trans (if_pos hpresence))
  replace hsend := hsend.trans (if_neg hpresence)
  rw [if_neg hpresence]
  by_cases hqueue : s.ports[p].queue.length = 4
  · rw [if_pos hqueue]
    exact exec_send_replied h (hsend.trans (if_pos hqueue))
  replace hsend := hsend.trans (if_neg hqueue)
  rw [if_neg hqueue]
  by_cases hlane : confirm = true ∧ 14 < s.trunk.control.length + s.trunk.reservations
  · rw [if_pos hlane]
    exact exec_send_replied h (hsend.trans (if_pos hlane))
  · rw [if_neg hlane]
    exact exec_send_replied h (hsend.trans (if_neg hlane))

/-! ## PORT_CONTROL ENABLE and DISABLE (R113, R117, R132, R139, R152) -/

/-- The answer to a PORT_CONTROL whose action has left its port in a presence state that is known. -/
theorem answerControl_eq {t : State} {p : PortIx} {presence : Presence} (h : t.ports[p].presence = presence) (n : Nat) :
    answerControl t p n = answerOk t [presence.code, BitVec.ofNat 8 n] := by
  rw [answerControl, h]
  rfl

/-- A port that ENABLE has brought to ABSENT (R113, R152). -/
def Port.opened (pt : Port) : Port :=
  { pt with
    presence := .absent
    endpointType := none
    probeDue := true
    probeTimer := some 250
    lineErrorRun := 0
    sendFailureRun := 0
    line := { pt.line with
      activity := pt.line.activity.enabled
      reasons := { pt.line.reasons with disabled := false, faulted := false } } }

/-- Neither DISABLED nor FAULTED stands any more, so nothing holds a line in the close of a cut. -/
theorem PortLegal.enable_eq {pt : Port} (h : PortLegal pt) : pt.enable = pt.opened := by
  have hfree : pt.line.activity = .closing →
      ((pt.setReason .disabled false).setReason .faulted false).line.reasons.any = false := by
    intro ha
    have hgood := h.line
    simp only [Line.good, ha, Bool.and_eq_true, Bool.not_eq_true'] at hgood
    obtain ⟨⟨-, hb⟩, hp⟩ := hgood
    simp [Port.setReason, Reasons.set, Reasons.any, hb, hp]
  rw [Port.enable, Port.releaseCut_eq _ hfree]
  rfl

/-- A DISABLE raised on a port in its rules: what its line was doing ends as it may, and a held-off frame is counted
(R113, R117, R123). -/
theorem PortLegal.raise_disabled {pt : Port} (h : PortLegal pt) :
    ∃ ready, pt.raise .disabled = { pt with
      line := ⟨pt.line.activity.disabled, { pt.line.reasons with disabled := true }, ready⟩
      stats := { pt.stats with
        preemptedInbound :=
          if pt.line.beforeCommit = true then satInc pt.stats.preemptedInbound else pt.stats.preemptedInbound } } := by
  unfold Line.beforeCommit
  cases ha : pt.line.activity with
  | inbound bits low gone =>
    obtain ⟨-, -, hcommit⟩ := Line.good_inbound h.line ha
    by_cases hb : bits.length < 12
    · have hfree : pt.line.reasons.any = false := by
        rw [← Bool.not_eq_true]
        exact fun hany => absurd (hcommit hany) (by omega)
      refine ⟨pt.line.ready, (pt.raise_holds_off .disabled ha hfree hb).trans ?_⟩
      cases gone <;> simp [hb, Activity.disabled, Reasons.set]
    · refine ⟨pt.line.ready, (pt.raise_waits .disabled ha (.inr (by omega))).trans ?_⟩
      simp [hb, ha, Activity.disabled, Port.setReason, Reasons.set]
  | none => exact ⟨pt.line.ready, by simp [Port.raise, ha, Port.setReason, Reasons.set, Activity.disabled]⟩
  | closing => exact ⟨pt.line.ready, by simp [Port.raise, ha, Port.setReason, Reasons.set, Activity.disabled]⟩
  | _ => exact ⟨none, pt.raise_cuts .disabled (by simp only [Line.attempting, ha]) rfl⟩

/-- A port that a DISABLE has put in DISABLED (R139, R152). -/
def Port.shut (pt : Port) : Port :=
  { pt with
    presence := .disabled
    endpointType := none
    probeDue := false
    probeTimer := none
    silenceTimer := none
    intake := []
    queue := []
    attempts := 0
    stats := { pt.stats with
      framesLost := BitVec.ofNat 16 (min 65535 (pt.stats.framesLost.toNat + pt.intake.length))
      preemptedInbound :=
        if pt.line.beforeCommit = true then satInc pt.stats.preemptedInbound else pt.stats.preemptedInbound }
    line := ⟨pt.line.activity.disabled, ⟨true, false, false, false⟩, none⟩ }

/-- DISABLED is raised, the queue is emptied, and the intake is flushed (R152). -/
def Port.disable (pt : Port) : Port :=
  Port.flushForDisable { pt.raise .disabled with
    presence := .disabled
    queue := []
    attempts := 0
    line := ⟨(pt.raise .disabled).line.activity, { (pt.raise .disabled).line.reasons with preempt := false }, none⟩ }

theorem PortLegal.disable_eq {pt : Port} (h : PortLegal pt) : pt.disable = pt.shut := by
  obtain ⟨ready, hraise⟩ := h.raise_disabled
  rw [Port.disable, hraise, Port.shut, Nat.min_comm]
  rfl

theorem State.disablePort_eq {s : State} {p : PortIx} (h : PortLegal s.ports[p]) :
    s.disablePort p =
      { s with
        ports := update s.ports p Port.shut
        trunk := s.trunk.resulted p .portDisabled s.ports[p].attempts s.ports[p].queue
        classifier := { s.classifier with deferred := update s.classifier.deferred p fun _ => false } } := by
  obtain ⟨ready, hraise⟩ := h.raise_disabled
  have hqueue : (s.ports[p].raise .disabled).queue = s.ports[p].queue := by rw [hraise]
  have hattempts : (s.ports[p].raise .disabled).attempts = s.ports[p].attempts := by rw [hraise]
  rw [State.disablePort, State.emptyQueue_eq, s.onPort_self, hqueue, hattempts, ← update_congr s.ports p h.disable_eq]
  simp only [State.onPort, State.withPorts_ports, update_update]
  rfl

theorem cmdPortControl_eq {action : Byte} {f : PortIx → State → Executed} (h : controlOf action = some f) (s : State)
    (p : PortIx) : cmdPortControl [indexByte p, action] s = f p s := by
  simp only [cmdPortControl, index?_port, h, inRange]

section
variable {s : State} {p : PortIx}

theorem controlEnable_enables (h : PortLegal s.ports[p])
    (hp : s.ports[p].presence = .disabled ∨ s.ports[p].presence = .faulted) :
    controlEnable p s = answerOk (s.onPort p Port.opened) [1, 0] := by
  have hpresence : (s.onPort p Port.opened).ports[p].presence = .absent :=
    congrArg Port.presence (s.onPort_self p Port.opened)
  refine Eq.trans ?_ (answerControl_eq hpresence 0)
  rw [← s.onPort_congr p h.enable_eq]
  rcases hp with hp | hp <;> simp only [controlEnable, hp]

theorem controlEnable_keeps (hp : s.ports[p].presence = .absent ∨ s.ports[p].presence = .present) :
    controlEnable p s = answerOk s [s.ports[p].presence.code, 0] := by
  refine Eq.trans ?_ (answerControl_eq rfl 0)
  rcases hp with hp | hp <;> simp only [controlEnable, hp]

theorem controlDisable_disables (h : PortLegal s.ports[p]) (hp : s.ports[p].presence ≠ .disabled) :
    controlDisable p s = answerOk (s.disablePort p) [0, 0] := by
  have hpresence : (s.disablePort p).ports[p].presence = .disabled := by
    rw [State.disablePort_eq h]
    exact congrArg Port.presence (s.onPort_self p Port.shut)
  refine Eq.trans ?_ (answerControl_eq hpresence 0)
  unfold controlDisable
  split
  · next hd => exact absurd hd hp
  · rfl

theorem controlDisable_keeps (hp : s.ports[p].presence = .disabled) : controlDisable p s = answerOk s [0, 0] := by
  refine Eq.trans ?_ (answerControl_eq hp 0)
  simp only [controlDisable, hp]

end

/-- Settles O48: each action by what it does to a port in its rules, or by the port that is there already. -/
theorem portsAreEnabledAndDisabled : Obligations.PortsAreEnabledAndDisabled := by
  unfold Obligations.PortsAreEnabledAndDisabled
  intro s sequence p h hinv
  have hlegal := (portInv_iff _).1 hinv
  have henable {t : State} {data : List Byte} (hc : controlEnable p s.heard = answerOk t data) :
      exec (.portControlEnable sequence (indexByte p) []) s = .next (t.replied sequence 0x39 .ok data) :=
    exec_replied h (c := .portControl) rfl ((cmdPortControl_eq rfl s.heard p).trans hc)
  have hdisable {t : State} {data : List Byte} (hc : controlDisable p s.heard = answerOk t data) :
      exec (.portControlDisable sequence (indexByte p) []) s = .next (t.replied sequence 0x39 .ok data) :=
    exec_replied h (c := .portControl) rfl ((cmdPortControl_eq rfl s.heard p).trans hc)
  refine ⟨fun hp => henable (controlEnable_enables hlegal hp), fun hp => henable (controlEnable_keeps hp), fun hp => ?_,
    fun hp => hdisable (controlDisable_keeps hp)⟩
  rw [hdisable (controlDisable_disables hlegal hp), State.disablePort_eq (s := s.heard) hlegal]
  rfl

/-! ## CONFIGURE_PORT (R126, R136, R151, R199) -/

/-- A settings byte carries its three settings in bits 0 to 2, and no reserved bit (R199). -/
theorem settingsBits (a b c : Bool) :
    (flag 0 a ||| flag 1 b ||| flag 2 c) &&& 0xF8 = 0 ∧ (flag 0 a ||| flag 1 b ||| flag 2 c).getLsbD 0 = a ∧
    (flag 0 a ||| flag 1 b ||| flag 2 c).getLsbD 1 = b ∧ (flag 0 a ||| flag 1 b ||| flag 2 c).getLsbD 2 = c := by
  revert a b c
  decide

/-- A configuration in range reads back from its bytes (R151). -/
theorem portConfig?_bytes {c : PortConfig} (h : silenceLimitOk c.silenceLimit = true) :
    portConfig? c.settings (BitVec.ofNat 16 c.silenceLimit) (optionalByte c.presenceLevel) (optionalByte c.faultLevel) =
      some c := by
  obtain ⟨hreserved, hfirst, hsecond, hthird⟩ : c.settings &&& 0xF8 = 0 ∧ _ := settingsBits _ _ _
  have hdisposition : (if c.settings.getLsbD 0 = true then Disposition.discard else .forward) = c.disposition := by
    rw [PortConfig.settings, hfirst]; cases c.disposition <;> rfl
  have hoverflow : (if c.settings.getLsbD 1 = true then Overflow.hold else .drop) = c.overflow := by
    rw [PortConfig.settings, hsecond]; cases c.overflow <;> rfl
  have hprecedence : (if c.settings.getLsbD 2 = true then Precedence.preempt else .yield) = c.precedence := by
    rw [PortConfig.settings, hthird]; cases c.precedence <;> rfl
  have hn : (BitVec.ofNat 16 c.silenceLimit).toNat = c.silenceLimit := by
    simp only [silenceLimitOk, Bool.or_eq_true, beq_iff_eq, Bool.and_eq_true, decide_eq_true_eq] at h
    rw [BitVec.toNat_ofNat, Nat.mod_eq_of_lt (by omega)]
  simp only [portConfig?, hn, hdisposition, hoverflow, hprecedence, optionalIndex?_optionalByte (by decide : 16 ≤ 255)]
  rw [if_pos ⟨hreserved, h⟩]
  rfl

/-- A port with a configuration written: the silence timer as R151 gives, then the test of PREEMPT (R126). -/
def Port.configured (pt : Port) (c : PortConfig) : Port :=
  { pt with
    config := c
    silenceTimer :=
      if c.silenceLimit = 0 then none
      else if pt.config.silenceLimit ≠ 0 then pt.silenceTimer
      else if pt.presence = Presence.present ∧ pt.line.reasons.backpressure = false ∧
          pt.line.attempting = false then
        some c.silenceLimit
      else none }.preempted

theorem PortLegal.configure_eq {pt : Port} (h : PortLegal pt) (c : PortConfig) : pt.configure c = pt.configured c := by
  have htest {qt : Port} (hline : qt.line = pt.line) : qt.testPreempt = qt.preempted :=
    qt.testPreempt_eq (by rw [hline]; exact h.settled.held)
  unfold Port.configure Port.configured
  by_cases hzero : c.silenceLimit = 0
  · simp only [if_pos hzero]
    exact htest rfl
  by_cases hstart : pt.config.silenceLimit = 0
  · have hsilence : { pt with config := c }.startSilence = { pt with
        config := c
        silenceTimer :=
          if pt.presence = Presence.present ∧ pt.line.reasons.backpressure = false ∧
            pt.line.attempting = false then some c.silenceLimit
          else none } := by
      simp [Port.startSilence, hzero]
    simp only [if_neg hzero, if_pos hstart, if_neg (not_not.2 hstart), hsilence]
    exact htest rfl
  · simp only [if_neg hzero, if_neg hstart, if_pos hstart]
    exact htest rfl

/-- CONFIGURE_PORT writes the configuration that its bytes give (R151). -/
theorem cmdConfigurePort_eq {s : State} {p : PortIx} (h : PortLegal s.ports[p]) {c : PortConfig}
    (hc : silenceLimitOk c.silenceLimit = true) :
    cmdConfigurePort ([indexByte p, c.settings] ++ word (BitVec.ofNat 16 c.silenceLimit) ++
        [optionalByte c.presenceLevel, optionalByte c.faultLevel]) s =
      answerOk (s.onPort p fun pt => pt.configured c) [] := by
  simp only [word, List.cons_append, List.nil_append, cmdConfigurePort, index?_port, wordOf_bytes, portConfig?_bytes hc,
    inRange]
  rw [s.onPort_congr p (f := fun pt => pt.configure c) (g := fun pt => pt.configured c) (h.configure_eq c)]

/-! ## READ_PORT (R112, R154, Table 10-5) -/

theorem Reasons.first_eq_none_iff (r : Reasons) : r.first = none ↔ r.any = false := by
  obtain ⟨disabled, faulted, backpressure, preempt⟩ := r
  revert disabled faulted backpressure preempt
  decide

theorem Line.heldWithoutReason_iff (l : Line) :
    l.heldWithoutReason = true ↔ l.state = .held ∧ l.reasons.any = false := by
  rw [← Reasons.first_eq_none_iff]
  simp [Line.heldWithoutReason]

/-- The fields of the line byte: the line state in bits 0 and 1, the hold reason in bits 4 and 5. -/
theorem Line.byte_fields (l : Line) (reads : Nat) :
    (l.byte reads).extractLsb' 0 2 = l.state.code ∧ (l.byte reads).extractLsb' 2 2 = 0 ∧
    (l.byte reads).extractLsb' 4 2 = l.reasonBits reads ∧ (l.byte reads).extractLsb' 6 2 = 0 := by
  unfold Line.byte
  generalize l.reasonBits reads = reason
  generalize l.state.code = state
  revert reason state
  decide

theorem Line.reasonBits_held {l : Line} (h : l.state = .held) {r : Reason} (hr : l.reasons.first = some r)
    (reads : Nat) : l.reasonBits reads = r.code := by
  simp only [Line.reasonBits, h, hr]

theorem Line.reasonBits_not_held {l : Line} (h : l.state ≠ .held) (reads : Nat) : l.reasonBits reads = 0 := by
  unfold Line.reasonBits
  split
  · next hh => exact absurd hh h
  · rfl

/-- READ_PORT reports the port as it stands, and clears its statistics on request (R154). -/
theorem cmdReadPort_eq (s : State) (p : PortIx) (clear : Bool) :
    cmdReadPort [indexByte p, settingByte clear] s =
      answerOk { s with
        ports :=
          if clear = true then update s.ports p fun pt : Port => { pt with stats := ⟨0, 0, 0, 0, 0, 0, 0, 0⟩ }
          else s.ports
        freeReads :=
          if s.ports[p].line.state = LineState.held ∧ s.ports[p].line.reasons.any = false then s.freeReads + 1
          else s.freeReads } (s.ports[p].report s.freeReads) := by
  simp only [cmdReadPort, index?_port, setting?_settingByte, inRange, Line.heldWithoutReason_iff]
  split_ifs <;> rfl

/-- Settles O47: the configuration reads back from its bytes, and the report holds the port's fields. -/
theorem portsAreConfiguredAndRead : Obligations.PortsAreConfiguredAndRead := by
  unfold Obligations.PortsAreConfiguredAndRead
  intro s sequence p h hinv
  refine ⟨fun c hc => ?_, fun clear => ⟨s.ports[p].line.byte s.freeReads, ?_⟩⟩
  · have hlimit : silenceLimitOk c.silenceLimit = true := by
      simpa [silenceLimitOk] using hc
    exact exec_replied h (c := .configurePort) rfl (cmdConfigurePort_eq (s := s.heard) ((portInv_iff _).1 hinv) hlimit)
  · obtain ⟨hstate, hlow, hreason, hhigh⟩ := s.ports[p].line.byte_fields s.freeReads
    refine ⟨hstate, hlow, hhigh, fun r hh hr => hreason.trans (Line.reasonBits_held hh hr _),
      fun hh => hreason.trans (Line.reasonBits_not_held hh _), ?_⟩
    have hflag : flag 0 s.ports[p].endpointType.isSome = if s.ports[p].endpointType = none then 0 else 1 := by
      cases s.ports[p].endpointType <;> rfl
    rw [exec_replied h (c := .readPort) rfl (cmdReadPort_eq s.heard p clear), ← hflag]
    rfl

end Sys2Proof.Machine
end

section
/-! PROOFS. The rules of a port, kept by everything that a row does to a port. -/

namespace Sys2Proof.Machine

/-! ## What a line is doing, and its reasons -/

theorem Reasons.any_of_withdrawn {reasons : Reasons} {r : Reason} (h : (reasons.set r false).any = true) :
    reasons.any = true := by
  obtain ⟨disabled, faulted, backpressure, preempt⟩ := reasons
  revert disabled faulted backpressure preempt
  cases r <;> decide

section
variable {l : Line}

theorem Line.good_of_inbound {bits : List Bool} {low gone : Bool} (ha : l.activity = .inbound bits low gone)
    (hlen : bits.length ≤ 15) (hlow : low = true → bits.length < 15) (hany : l.reasons.any = true → 12 ≤ bits.length) :
    l.good = true := by
  simp only [Line.good, ha, Bool.and_eq_true, Bool.or_eq_true, Bool.not_eq_true', decide_eq_true_eq,
    ← Bool.not_eq_true, ← imp_iff_not_or]
  exact ⟨⟨hlen, hlow⟩, hany⟩

/-- Withdrawing a reason leaves a line consistent: nothing that it does needs a reason to stand. -/
theorem Line.good_withdraw (h : l.good = true) (r : Reason) :
    Line.good { l with reasons := l.reasons.set r false } = true := by
  cases ha : l.activity with
  | none => rfl
  | inbound bits low gone =>
    obtain ⟨hlen, hlow, hany⟩ := Line.good_inbound h ha
    exact Line.good_of_inbound rfl hlen hlow fun hs => hany (Reasons.any_of_withdrawn hs)
  | _ =>
    simp only [Line.good, ha, Bool.and_eq_true, Bool.not_eq_true'] at h ⊢
    cases r <;> simp [Reasons.set, h]

/-- Only an attempt needs its ready frame. -/
theorem Line.good_handed (h : l.good = true) (ha : l.attempting = false) (ready : Option Ready) :
    Line.good { l with ready := ready } = true := by
  obtain ⟨activity, reasons, ready⟩ := l
  cases activity with
  | none | inbound | closing => exact h
  | holdPhase | awaitClock | outbound => cases ha

/-- A line that is attempting has a ready frame, and neither DISABLED nor FAULTED stands. -/
theorem Line.good_attempting (h : l.good = true) (ha : l.attempting = true) :
    l.ready.isSome = true ∧ l.reasons.disabled = false ∧ l.reasons.faulted = false := by
  obtain ⟨activity, reasons, ready⟩ := l
  cases activity with
  | none | inbound | closing => cases ha
  | holdPhase | awaitClock | outbound => simp_all [Line.good]

/-- What a reset leaves of a line is consistent with the DISABLED and the FAULTED that it leaves standing (R129). -/
theorem Line.good_reset (h : l.good = true) :
    (l.reset { l.reasons with backpressure := false, preempt := false }).good = true := by
  cases ha : l.activity with
  | none => simp only [Line.reset, ha]; rfl
  | inbound bits low gone =>
    obtain ⟨hlen, hlow, hany⟩ := Line.good_inbound h ha
    refine Line.good_of_inbound (by rw [Line.reset, ha]; rfl) hlen hlow fun hs => hany ?_
    simp only [Line.reset, Reasons.any, Bool.or_false, Bool.or_eq_true] at hs ⊢
    exact .inl (.inl hs)
  | _ => simp_all [Line.good, Line.reset, Activity.reset]

/-- A CONFIG reset leaves no reason standing (R129). -/
theorem Line.good_reset_noReason (h : l.good = true) : (l.reset Reasons.noReason).good = true := by
  cases ha : l.activity with
  | inbound bits low gone =>
    obtain ⟨hlen, hlow, -⟩ := Line.good_inbound h ha
    exact Line.good_of_inbound (by rw [Line.reset, ha]; rfl) hlen hlow fun hs => by cases hs
  | _ => simp only [Line.reset, ha]; rfl

end

namespace PortLegal

variable {pt : Port}

/-! ## The line -/

/-- The line does something else, which is as much an attempt as before. -/
theorem withActivity (h : PortLegal pt) {a : Activity}
    (hattempting : Line.attempting { pt.line with activity := a } = pt.line.attempting)
    (hgood : Line.good { pt.line with activity := a } = true) :
    PortLegal { pt with line := { pt.line with activity := a } } :=
  { h with
    attemptsLeft := fun hl => h.attemptsLeft (hattempting ▸ hl)
    attemptsBegun := fun hb => h.attemptsBegun (hattempting ▸ hb)
    silence := fun hs => by
      obtain ⟨hpresent, hlimit, hfree, hidle⟩ := h.silence hs
      exact ⟨hpresent, hlimit, hfree, hattempting.trans hidle⟩
    line := hgood }

/-- PREEMPT holds off an inbound frame (R117, R126). -/
theorem preempted (h : PortLegal pt) : PortLegal pt.preempted := by
  unfold Port.preempted
  split_ifs with hpreempt
  · obtain ⟨hready, -, hcommit⟩ := hpreempt
    have hidle : pt.line.attempting = false := by
      unfold Line.beforeCommit at hcommit
      unfold Line.attempting
      split at hcommit
      · next ha => rw [ha]
      · cases hcommit
    exact
      { h with
        attemptsLeft := fun _ => h.attemptsLeft hidle
        attemptsBegun := fun hb => by cases hb
        preempt := fun _ => hready
        silence := fun hs => by
          obtain ⟨hpresent, hlimit, hfree, -⟩ := h.silence hs
          exact ⟨hpresent, hlimit, hfree, rfl⟩
        line := rfl }
  · exact h

theorem inboundBegins (h : PortLegal pt) : PortLegal pt.inboundBegins := by
  by_cases hq : pt.line.state = .quiet
  · obtain ⟨ha, hany⟩ := pt.line.state_quiet_iff.1 hq
    rw [Port.inboundBegins_quiet hq]
    refine preempted (h.withActivity ?_ ?_)
    · simp only [Line.attempting, ha]
    · exact Line.good_of_inbound rfl (by decide) (fun _ => by decide) fun hs => by simp [hany] at hs
  · rwa [Port.inboundBegins_not_quiet hq]

/-- The edges of CLK: fifteen clocks at most, and none in the slot (R108, R110, R114, R121). -/
theorem clock (h : PortLegal pt) (edge : Edge) (high : Bool) : PortLegal (pt.clock edge high) := by
  unfold Port.clock
  split
  · exact h.inboundBegins
  · next bits gone ha =>
    obtain ⟨-, hlow, hany⟩ := Line.good_inbound h.line ha
    refine h.withActivity (by simp only [Line.attempting, ha]) (Line.good_of_inbound rfl ?_ (fun hf => by cases hf) ?_)
    · simpa using hlow rfl
    · intro hs
      have := hany hs
      simp; omega
  · next bits gone ha =>
    obtain ⟨-, -, hany⟩ := Line.good_inbound h.line ha
    split_ifs with hb
    · exact h.withActivity (by simp only [Line.attempting, ha]) (Line.good_of_inbound rfl hb.le (fun _ => hb) hany)
    · exact h
  · next ha =>
    have hgood := h.line
    refine h.withActivity (by simp only [Line.attempting, ha]) ?_
    simp only [Line.good, ha, Bool.and_eq_true] at hgood
    simp [Line.good, hgood]
  · next given answered ha =>
    obtain ⟨hready, hd, hf, hp, -, hlow⟩ := Line.good_outbound h.line ha
    have := hlow rfl
    refine h.withActivity (by simp only [Line.attempting, ha]) ?_
    simp [Line.good, hready, hd, hf, hp]; omega
  · next given answered ha =>
    obtain ⟨hready, hd, hf, hp, -, -⟩ := Line.good_outbound h.line ha
    split_ifs with hg
    · refine h.withActivity (by simp only [Line.attempting, ha]) ?_
      simp [Line.good, hready, hd, hf, hp]; omega
    · exact h
  · exact h

/-- An attempt begins: one more for an entry, and the silence timer stops (R120, R136, R146). -/
theorem requestToSend (h : PortLegal pt) (clkHigh dataHigh : Bool) : PortLegal (pt.requestToSend clkHigh dataHigh) := by
  have hbegin {r : Ready} (fromHeld : Bool) (ha : pt.line.activity = .none) (hr : pt.line.ready = some r)
      (hd : pt.line.reasons.disabled = false) (hf : pt.line.reasons.faulted = false) :
      PortLegal (pt.beginAttempt fromHeld r) := by
    have hleft := h.attemptsLeft (by simp only [Line.attempting, ha])
    rw [Port.beginAttempt_ready hr]
    exact
      { h with
        attemptsRoom := by dsimp only; split_ifs <;> omega
        attemptsNone := fun hq => by
          have hnone := h.attemptsNone hq
          cases hp : r.probe with
          | true => simpa using hnone
          | false =>
            obtain ⟨-, e, rest, hqueue, -⟩ := h.head_of_ready hr hp
            exact absurd (hq.symm.trans hqueue) (by simp)
        attemptsLeft := fun hb => by cases hb
        attemptsBegun := fun _ hq => by
          cases hp : r.probe with
          | true =>
            have habsent := h.absent_of_probe hr hp
            exact absurd (h.queuePresent (by simp only [habsent]; decide)) hq
          | false => simp
        silence := fun hs => by cases hs
        line := by simp [Line.good, hr, hd, hf] }
  unfold Port.requestToSend
  split
  · next r ha hr =>
    split_ifs with hany hheld hwires
    · obtain ⟨hd, hf, -⟩ := hheld
      exact hbegin true ha hr hd hf
    · exact h
    · simp only [Reasons.any, Bool.or_eq_true, not_or, Bool.not_eq_true] at hany
      obtain ⟨⟨⟨hd, hf⟩, -⟩, -⟩ := hany
      exact hbegin false ha hr hd hf
    · exact h
  · exact h

theorem startBit (h : PortLegal pt) : PortLegal pt.startBit := by
  by_cases hhold : ∃ fromHeld, pt.line.activity = .holdPhase fromHeld
  · obtain ⟨fromHeld, ha⟩ := hhold
    have hattempting : pt.line.attempting = true := by simp only [Line.attempting, ha]
    obtain ⟨hready, hd, hf⟩ := Line.good_attempting h.line hattempting
    rw [Port.startBit_holdPhase ha]
    exact
      { h with
        attemptsLeft := fun hb => by cases hb
        attemptsBegun := fun _ => h.attemptsBegun hattempting
        preempt := fun hp => by cases hp
        silence := fun hs => by
          obtain ⟨-, -, -, hidle⟩ := h.silence hs
          exact absurd (hattempting.symm.trans hidle) (by decide)
        line := by simp [Line.good, hready, hd, hf] }
  · rw [not_exists] at hhold
    rwa [Port.startBit_else hhold]

theorem cutEnds (h : PortLegal pt) : PortLegal pt.cutEnds := by
  by_cases ha : pt.line.activity = .closing
  · rw [Port.cutEnds_closing ha]
    exact h.withActivity (by simp only [Line.attempting, ha]) rfl
  · rwa [Port.cutEnds_else ha]

/-! ## Probes, counters and the endpoint type -/

theorem withStats (h : PortLegal pt) (stats : Statistics) : PortLegal { pt with stats := stats } := { h with }

theorem withEndpointType (h : PortLegal pt) (type : Option Byte) : PortLegal { pt with endpointType := type } :=
  { h with }

theorem setDue (h : PortLegal pt) (hp : pt.presence = .absent) : PortLegal { pt with probeDue := true } :=
  { h with probeDue := fun _ => hp }

theorem probeTimerExpires (h : PortLegal pt) : PortLegal pt.probeTimerExpires := by
  unfold Port.probeTimerExpires
  split
  · exact h
  · next timer ht =>
    have habsent := h.probeTimer.1 (by rw [ht]; rfl)
    exact { h.setDue habsent with probeTimer := iff_of_true rfl habsent }

/-- A probe is handed to a line that has no ready frame, so the queue stays empty (R134). -/
theorem handProbe (h : PortLegal pt) (clkHigh dataHigh : Bool) : PortLegal (pt.handProbe clkHigh dataHigh) := by
  unfold Port.handProbe
  split_ifs with hprobe
  · obtain ⟨habsent, -, hquiet, -, -, -⟩ := hprobe
    obtain ⟨ha, hany⟩ := pt.line.state_quiet_iff.1 hquiet
    exact
      { h with
        preempt := fun hp => absurd hp (by simp [h.preempt_absent (pt := pt) (by simp [habsent]), Port.withLine])
        probeDue := fun hd => by cases hd
        ready := by simp [Port.readyGood, Port.withLine, probeFrame, habsent]
        line := Line.good_handed h.line (by simp only [Line.attempting, ha]) _ }
  · exact h

/-! ## Presence (R132, R133, R137, R138, R152) -/

/-- In ABSENT and PRESENT neither DISABLED nor FAULTED stands (R132). -/
theorem reasons_free (h : PortLegal pt) (hp : pt.presence = .absent ∨ pt.presence = .present) :
    pt.line.reasons.disabled = false ∧ pt.line.reasons.faulted = false := by
  rw [← Bool.not_eq_true, ← Bool.not_eq_true, h.disabled, h.faulted]
  rcases hp with hp | hp <;> simp [hp]

/-- A port enters PRESENT from ABSENT with nothing in progress on its line (R133). -/
theorem arrives (h : PortLegal pt) (hp : pt.presence = .absent) (ha : pt.line.activity = .none) :
    PortLegal pt.arrives := by
  obtain ⟨hd, hf⟩ := h.reasons_free (.inl hp)
  have hpreempt := h.preempt_absent (by simp [hp])
  have hqueue := h.queuePresent (by simp [hp])
  exact
    { h with
      disabled := iff_of_false (by simp [Port.arrives, hd]) (by simp [Port.arrives])
      faulted := iff_of_false (by simp [Port.arrives, hf]) (by simp [Port.arrives])
      queuePresent := fun _ => hqueue
      intakeDisabled := fun hdisabled => by cases hdisabled
      preempt := fun hstands => by simp [Port.arrives, hpreempt] at hstands
      probeTimer := iff_of_false (by simp [Port.arrives]) (by simp [Port.arrives])
      probeDue := fun hdue => by cases hdue
      silence := fun hs => by
        simp only [Port.arrives, Option.isSome_ite] at hs
        obtain ⟨hlimit, hfree⟩ := hs
        exact ⟨rfl, hlimit, hfree, by simp only [Port.arrives, Line.attempting, ha]⟩
      lineErrors := Nat.zero_le _
      runs := fun _ => ⟨Nat.zero_lt_succ _, (h.runs (.inl hp)).2⟩
      ready := by simp [Port.readyGood, Port.arrives, hqueue]
      line := by simp only [Port.arrives, Line.good, ha] }

/-- A port faults, with runs that may have reached their limits and nothing in progress on its line (R138, R139). -/
theorem faults (h : PortLegal pt) (hp : pt.presence = .absent ∨ pt.presence = .present) (ha : pt.line.activity = .none)
    (stats : Statistics) {errors failures : Nat} (he : errors ≤ 8) (hf : failures ≤ 4) :
    PortLegal (Port.faults { pt with lineErrorRun := errors, sendFailureRun := failures, stats := stats }) := by
  obtain ⟨hd, -⟩ := h.reasons_free hp
  exact
    { h with
      queueRoom := Nat.zero_le _
      attemptsRoom := Nat.zero_le _
      queueTags := fun e he => by cases he
      disabled := iff_of_false (by simp [Port.faults, hd]) (by simp [Port.faults])
      faulted := iff_of_true rfl rfl
      queuePresent := fun _ => rfl
      intakeDisabled := fun hdisabled => by cases hdisabled
      attemptsNone := fun _ => rfl
      attemptsLeft := fun _ => by simp [Port.faults]
      attemptsBegun := fun _ hq => absurd rfl hq
      preempt := fun hstands => by cases hstands
      probeTimer := iff_of_false (by simp [Port.faults]) (by simp [Port.faults])
      probeDue := fun hdue => by cases hdue
      silence := fun hs => by cases hs
      lineErrors := he
      sendFailures := hf
      runs := fun hp => by rcases hp with hp | hp <;> cases hp
      ready := rfl
      line := by simp only [Port.faults, Line.good, ha] }

/-- A port that has gone silent (R137, R139). -/
theorem gone (h : PortLegal pt) (hp : pt.presence = .present) (hs : pt.silenceTimer.isSome = true) :
    PortLegal { pt with
      presence := .absent
      endpointType := none
      queue := []
      attempts := 0
      silenceTimer := none
      probeDue := true
      probeTimer := some 250
      line := ⟨pt.line.activity, { pt.line.reasons with preempt := false }, none⟩ } := by
  obtain ⟨hd, hf⟩ := h.reasons_free (.inr hp)
  obtain ⟨-, -, -, hidle⟩ := h.silence hs
  exact
    { h with
      queueRoom := Nat.zero_le _
      attemptsRoom := Nat.zero_le _
      queueTags := fun e he => by cases he
      disabled := iff_of_false (by simp [hd]) (by simp)
      faulted := iff_of_false (by simp [hf]) (by simp)
      queuePresent := fun _ => rfl
      intakeDisabled := fun hdisabled => by cases hdisabled
      attemptsNone := fun _ => rfl
      attemptsLeft := fun _ => by simp
      attemptsBegun := fun _ hq => absurd rfl hq
      preempt := fun hstands => by cases hstands
      probeTimer := iff_of_true rfl rfl
      probeDue := fun _ => rfl
      silence := fun hs => by cases hs
      runs := fun _ => h.runs (.inr hp)
      ready := rfl
      line := Line.good_handed (Line.good_withdraw h.line .preempt) hidle none }

/-- ENABLE finds no frame ready and no attempt in progress (R152). -/
theorem opened (h : PortLegal pt) (hp : pt.presence = .disabled ∨ pt.presence = .faulted) : PortLegal pt.opened := by
  have hpresent : pt.presence ≠ .present := by rcases hp with hp | hp <;> simp [hp]
  have hqueue := h.queuePresent hpresent
  have hidle : pt.line.attempting = false := by
    rw [← Bool.not_eq_true]
    intro hattempting
    obtain ⟨-, hd, hf⟩ := Line.good_attempting h.line hattempting
    rcases hp with hp | hp
    · exact absurd (h.disabled.2 hp) (by simp [hd])
    · exact absurd (h.faulted.2 hp) (by simp [hf])
  have henabled : Line.attempting { pt.line with activity := pt.line.activity.enabled } = false := by
    unfold Line.attempting at hidle ⊢
    cases ha : pt.line.activity <;> simp_all [Activity.enabled]
  have hgood : pt.opened.line.good = true := by
    have hfree := Line.good_withdraw (Line.good_withdraw h.line .disabled) .faulted
    unfold Port.opened
    cases ha : pt.line.activity with
    | closing | none => rfl
    | _ => simpa [Activity.enabled, ← ha, Reasons.set] using hfree
  exact
    { h with
      disabled := iff_of_false (by simp [Port.opened]) (by simp [Port.opened])
      faulted := iff_of_false (by simp [Port.opened]) (by simp [Port.opened])
      queuePresent := fun _ => hqueue
      intakeDisabled := fun hdisabled => by cases hdisabled
      attemptsLeft := fun _ => h.attemptsLeft hidle
      attemptsBegun := fun _ hq => absurd hqueue hq
      probeTimer := iff_of_true rfl rfl
      probeDue := fun _ => rfl
      silence := fun hs => absurd (h.silence hs).1 hpresent
      lineErrors := Nat.zero_le _
      sendFailures := Nat.zero_le _
      runs := fun _ => ⟨Nat.zero_lt_succ _, Nat.zero_lt_succ _⟩
      ready := by simp [Port.readyGood, Port.opened, h.ready_none hp, hqueue]
      line := hgood }

theorem shut (h : PortLegal pt) : PortLegal pt.shut := by
  have hidle : pt.shut.line.attempting = false := by
    unfold Port.shut Line.attempting
    cases ha : pt.line.activity with
    | inbound bits low gone => by_cases hb : bits.length < 12 <;> simp [Activity.disabled, hb]
    | _ => rfl
  have hgood : pt.shut.line.good = true := by
    unfold Port.shut
    cases ha : pt.line.activity with
    | inbound bits low gone =>
      obtain ⟨hlen, hlow, -⟩ := Line.good_inbound h.line ha
      by_cases hb : bits.length < 12
      · simp [Activity.disabled, hb, Line.good]
      · exact Line.good_of_inbound (by simp [Activity.disabled, hb]; rfl) hlen hlow fun _ => by omega
    | _ => rfl
  exact
    { h with
      intakeRoom := Nat.zero_le _
      queueRoom := Nat.zero_le _
      attemptsRoom := Nat.zero_le _
      intakeTags := fun f hf => by cases hf
      queueTags := fun e he => by cases he
      backpressure := by simp [Port.shut]
      disabled := iff_of_true rfl rfl
      faulted := iff_of_false (by simp [Port.shut]) (by simp [Port.shut])
      queuePresent := fun _ => rfl
      intakeDisabled := fun _ => rfl
      attemptsNone := fun _ => rfl
      attemptsLeft := fun _ => by simp [Port.shut]
      attemptsBegun := fun _ hq => absurd rfl hq
      preempt := fun hstands => by cases hstands
      probeTimer := iff_of_false (by simp [Port.shut]) (by simp [Port.shut])
      probeDue := fun hdue => by cases hdue
      silence := fun hs => by cases hs
      runs := fun hp => by rcases hp with hp | hp <;> cases hp
      ready := rfl
      line := hgood }

/-! ## Frames that are received (R115, R138, R140 to R142) -/

theorem receives (h : PortLegal pt) (ha : pt.line.activity = .none) (hp : pt.presence ≠ .disabled) {f : Frame}
    (ht : f.tag ≠ 7) : PortLegal (pt.receives f) := by
  unfold Port.receives
  by_cases hroom : pt.intake.length < 4
  · rw [if_pos hroom]
    exact
      { h with
        intakeRoom := by simp only [List.length_append, List.length_cons, List.length_nil]; omega
        intakeTags := fun g hg => by
          rcases List.mem_append.1 hg with hg | hg
          · exact h.intakeTags g hg
          · exact List.mem_singleton.1 hg ▸ ht
        backpressure := by simp
        intakeDisabled := fun hd => absurd hd hp
        silence := fun hs => by
          by_cases hfull : 3 ≤ pt.intake.length + 1
          · simp [hfull] at hs
          · rw [if_neg hfull] at hs
            obtain ⟨hpresent, hlimit, -, hidle⟩ := h.silence hs
            exact ⟨hpresent, hlimit, by simpa using hfull, hidle⟩
        line := by simp only [Line.good, ha] }
  · rw [if_neg hroom]
    exact h.withStats _

theorem keeps (h : PortLegal pt) (ha : pt.line.activity = .none) (hp : pt.presence ≠ .disabled) (tag : Tag)
    (data : Byte) (time : Word) : PortLegal (pt.keeps tag data time) := by
  unfold Port.keeps
  split_ifs with ht
  · exact h.withEndpointType _
  · exact h.receives ha hp ht

/-- The timer that starts in full is one that may run (R136). -/
theorem fullSilence_running (hs : pt.fullSilence.isSome = true) :
    pt.presence = .present ∧ pt.config.silenceLimit ≠ 0 ∧ pt.line.reasons.backpressure = false := by
  simpa only [Port.fullSilence, Option.isSome_ite] using hs

/-- A good frame in PRESENT ends the line-error run and starts the silence timer in full. -/
theorem heard (h : PortLegal pt) (ha : pt.line.activity = .none) (stats : Statistics) :
    PortLegal { pt with stats := stats, lineErrorRun := 0, silenceTimer := pt.fullSilence } :=
  { h with
    silence := fun hs => by
      obtain ⟨hpresent, hlimit, hfree⟩ := fullSilence_running hs
      exact ⟨hpresent, hlimit, hfree, by simp only [Line.attempting, ha]⟩
    lineErrors := Nat.zero_le _
    runs := fun hp => ⟨Nat.zero_lt_succ _, (h.runs hp).2⟩ }

theorem advanceRun (h : PortLegal pt) (hrun : pt.lineErrorRun < 7) : PortLegal pt.advanceRun :=
  { h with
    lineErrors := by show pt.lineErrorRun + 1 ≤ 8; omega
    runs := fun hp => ⟨by show pt.lineErrorRun + 1 < 8; omega, (h.runs hp).2⟩ }

/-! ## Attempts that have ended (R113, R146, R147) -/

/-- An attempt that has left its request-to-send leaves PREEMPT withdrawn (R126). -/
theorem preempt_withdrawn (h : PortLegal pt)
    (ha : pt.line.activity = .awaitClock ∨ ∃ given low answered, pt.line.activity = .outbound given low answered) :
    pt.line.reasons.preempt = false := by
  have hgood := h.line
  rcases ha with ha | ⟨given, low, answered, ha⟩ <;>
    simp only [Line.good, ha, Bool.and_eq_true, Bool.not_eq_true'] at hgood
  · exact hgood.2
  · obtain ⟨⟨⟨-, hpreempt⟩, -⟩, -⟩ := hgood
    exact hpreempt

/-- A port whose attempt is over, with what is left of its queue. -/
theorem nextHead (h : PortLegal pt) (hp : pt.presence = .present) (hpreempt : pt.line.reasons.preempt = false)
    {queue : List TxEntry} (hqueue : queue.Sublist pt.queue) {attempts failures : Nat} (ha : attempts < 3)
    (hnone : queue = [] → attempts = 0) (hf : failures < 4) (stats : Statistics) :
    PortLegal { pt.attemptOver.nextHead queue with
      attempts := attempts
      sendFailureRun := failures
      stats := stats } :=
  { h with
    queueRoom := hqueue.length_le.trans h.queueRoom
    attemptsRoom := ha.le
    queueTags := fun e he => h.queueTags e (hqueue.subset he)
    queuePresent := fun hnot => absurd hp hnot
    attemptsNone := hnone
    attemptsLeft := fun _ => ha
    attemptsBegun := fun hb => by cases hb
    preempt := fun hstands => by simp [Port.nextHead, Port.attemptOver, hpreempt] at hstands
    silence := fun hs => by
      obtain ⟨hpresent, hlimit, hfree⟩ := fullSilence_running (pt := pt) hs
      exact ⟨hpresent, hlimit, hfree, rfl⟩
    sendFailures := hf.le
    runs := fun hr => ⟨(h.runs hr).1, hf⟩
    ready := by cases queue <;> simp [Port.readyGood, Port.nextHead, Port.attemptOver, readyHead, hp]
    line := rfl }

/-- A port whose probe is over. -/
theorem probeOver (h : PortLegal pt) (hp : pt.presence = .absent) : PortLegal pt.attemptOver := by
  have hqueue := h.queuePresent (by simp [hp])
  have hpreempt := h.preempt_absent (by simp [hp])
  exact
    { h with
      attemptsLeft := fun _ => by simp [Port.attemptOver, h.attemptsNone hqueue]
      attemptsBegun := fun hb => by cases hb
      preempt := fun hstands => by simp [Port.attemptOver, hpreempt] at hstands
      silence := fun hs => by
        obtain ⟨hpresent, hlimit, hfree⟩ := fullSilence_running (pt := pt) hs
        exact ⟨hpresent, hlimit, hfree, rfl⟩
      ready := by simp [Port.readyGood, Port.attemptOver, hqueue]
      line := rfl }

/-! ## The transmit queue and the configuration (R143, R151, R153) -/

theorem entered (h : PortLegal pt) (hp : pt.presence = .present) (hroom : pt.queue.length < 4) {e : TxEntry}
    (ht : e.tag ≠ 7) : PortLegal (pt.entered e) := by
  unfold Port.entered
  split_ifs with hq
  · have hready := (h.settled.ready hp).2 hq
    have hidle : pt.line.attempting = false := by
      rw [← Bool.not_eq_true]
      intro hattempting
      obtain ⟨hsome, -, -⟩ := Line.good_attempting h.line hattempting
      simp [hready] at hsome
    exact preempted
      { h with
        queueRoom := by simp
        queueTags := fun x hx => List.mem_singleton.1 hx ▸ ht
        queuePresent := fun hnot => absurd hp hnot
        attemptsNone := fun hnil => by cases hnil
        attemptsBegun := fun hb => absurd (hidle.symm.trans hb) (by decide)
        preempt := fun _ => rfl
        ready := by simp [Port.readyGood, hp]
        line := Line.good_handed h.line hidle _ }
  · exact
      { h with
        queueRoom := by simp only [List.length_append, List.length_cons, List.length_nil]; omega
        queueTags := fun x hx => by
          rcases List.mem_append.1 hx with hx | hx
          · exact h.queueTags x hx
          · exact List.mem_singleton.1 hx ▸ ht
        queuePresent := fun hnot => absurd hp hnot
        attemptsNone := fun hnil => absurd hnil (by simp)
        attemptsBegun := fun hb _ => h.attemptsBegun hb hq
        ready := by
          have hgood := h.ready
          obtain ⟨e', rest, hcons⟩ := List.exists_cons_of_ne_nil hq
          simp only [Port.readyGood, hcons] at hgood ⊢
          exact hgood }

theorem answers (h : PortLegal pt) {tag : Tag} (ht : tag ≠ 7) (data : Byte) : PortLegal (pt.answers tag data) := by
  unfold Port.answers
  by_cases hroom : pt.presence = .present ∧ pt.queue.length < 4
  · rw [if_pos hroom]
    exact h.entered hroom.1 hroom.2 (e := ⟨tag, data, none⟩) ht
  · rw [if_neg hroom]
    exact h.withStats _

theorem configured (h : PortLegal pt) {c : PortConfig} (hc : silenceLimitOk c.silenceLimit = true) :
    PortLegal (pt.configured c) :=
  preempted
    { h with
      silence := fun hs => by
        by_cases hzero : c.silenceLimit = 0
        · simp [hzero] at hs
        rw [if_neg hzero] at hs
        by_cases hold : pt.config.silenceLimit = 0
        · rw [if_neg (not_not.2 hold), Option.isSome_ite] at hs
          obtain ⟨hpresent, hfree, hidle⟩ := hs
          exact ⟨hpresent, hzero, hfree, hidle⟩
        · rw [if_pos hold] at hs
          obtain ⟨hpresent, -, hfree, hidle⟩ := h.silence hs
          exact ⟨hpresent, hzero, hfree, hidle⟩
      limit := hc }

/-- Only an entry in flight has had an attempt, so a queue without one may go with its ready frame (R153). -/
theorem flushTx (h : PortLegal pt) : PortLegal pt.flushTx := by
  unfold Port.flushTx
  split_ifs with ha
  · cases hq : pt.queue with
    | nil => exact h
    | cons e rest =>
      have hidle : pt.line.attempting = false := by
        rw [← Bool.not_eq_true]
        intro hattempting
        have := h.attemptsBegun hattempting (by simp [hq])
        omega
      exact
        { h with
          queueRoom := Nat.zero_le _
          queueTags := fun x hx => by cases hx
          queuePresent := fun _ => rfl
          attemptsNone := fun _ => ha
          attemptsLeft := fun _ => h.attemptsLeft hidle
          attemptsBegun := fun _ hnot => absurd rfl hnot
          preempt := fun hstands => by cases hstands
          ready := rfl
          line := Line.good_handed (Line.good_withdraw h.line .preempt) hidle none }
  · have hqueue : pt.queue ≠ [] := fun hnil => ha (h.attemptsNone hnil)
    obtain ⟨e, rest, hcons⟩ := List.exists_cons_of_ne_nil hqueue
    have htake : pt.queue.take 1 = [e] := by rw [hcons]; rfl
    rw [htake]
    exact
      { h with
        queueRoom := by simp
        queueTags := fun x hx => List.mem_singleton.1 hx ▸ h.queueTags e (by simp [hcons])
        queuePresent := fun hnot => absurd (h.queuePresent hnot) hqueue
        attemptsNone := fun hnil => by cases hnil
        attemptsBegun := fun hb _ => h.attemptsBegun hb hqueue
        ready := by
          have hgood := h.ready
          simp only [Port.readyGood, hcons] at hgood ⊢
          exact hgood }

/-! ## The head frame that leaves, and the resets (R65, R129, Table 7-9) -/

theorem headGone (h : PortLegal pt) : PortLegal pt.headGone := by
  have hroom := h.intakeRoom
  have htags (f : Frame) (hf : f ∈ pt.intake.tail) : f.tag ≠ 7 := h.intakeTags f (List.mem_of_mem_tail hf)
  have hempty (hd : pt.presence = .disabled) : pt.intake.tail = [] := by rw [h.intakeDisabled hd]; rfl
  unfold Port.headGone
  by_cases hfalls : pt.line.reasons.backpressure = true ∧ pt.intake.length ≤ 3
  · rw [if_pos hfalls]
    exact
      { h with
        intakeRoom := by rw [List.length_tail]; omega
        intakeTags := htags
        backpressure := by rw [List.length_tail]; simp; omega
        intakeDisabled := hempty
        silence := fun hs => by
          rw [Option.isSome_ite] at hs
          obtain ⟨hpresent, hlimit, hidle⟩ := hs
          exact ⟨hpresent, hlimit, rfl, hidle⟩
        line := Line.good_withdraw h.line .backpressure }
  · rw [if_neg hfalls]
    exact
      { h with
        intakeRoom := by rw [List.length_tail]; omega
        intakeTags := htags
        backpressure := by
          rw [List.length_tail, h.backpressure]
          have hfill : ¬ (3 ≤ pt.intake.length ∧ pt.intake.length ≤ 3) := fun hf => hfalls ⟨h.backpressure.2 hf.1, hf.2⟩
          omega
        intakeDisabled := hempty }

theorem dropRelay (h : PortLegal pt) : PortLegal pt.dropRelay := h.withStats _

theorem resetTraffic (h : PortLegal pt) : PortLegal pt.resetTraffic := by
  unfold Port.resetTraffic
  rw [Port.startSilence_eq _ (Line.reset_attempting _ _)]
  exact
    { h with
      intakeRoom := Nat.zero_le _
      queueRoom := Nat.zero_le _
      attemptsRoom := Nat.zero_le _
      intakeTags := fun f hf => by cases hf
      queueTags := fun e he => by cases he
      backpressure := by simp [Line.reset]
      queuePresent := fun _ => rfl
      intakeDisabled := fun _ => rfl
      attemptsNone := fun _ => rfl
      attemptsLeft := fun _ => Nat.zero_lt_succ _
      attemptsBegun := fun _ hq => absurd rfl hq
      preempt := fun hstands => by cases hstands
      silence := fun hs => by
        obtain ⟨hpresent, hlimit, hfree⟩ := fullSilence_running hs
        exact ⟨hpresent, hlimit, hfree, Line.reset_attempting _ _⟩
      ready := rfl
      line := Line.good_reset h.line }

theorem cold : PortLegal Port.cold := (portInv_iff _).1 (by decide)

theorem resetConfig (h : PortLegal pt) : PortLegal pt.resetConfig :=
  { cold with
    attemptsLeft := fun _ => Nat.zero_lt_succ _
    attemptsBegun := fun _ hq => absurd rfl hq
    preempt := fun hstands => by cases hstands
    silence := fun hs => by cases hs
    line := Line.good_reset_noReason h.line }

end PortLegal

end Sys2Proof.Machine
end

section
/-! PROOFS. The rules of the ports, the lanes, the receiver and the sequence memory, kept by each shared operation. -/

namespace Sys2Proof.Machine

/-! ## Confirmed entries and their RESULTs (R145, R148, R170) -/

theorem confirmedIn_append (entries others : List TxEntry) :
    confirmedIn (entries ++ others) = confirmedIn entries + confirmedIn others := by
  simp [confirmedIn]

/-- Each confirmed entry that leaves has one RESULT. -/
theorem length_resultsOf (p : PortIx) (outcome : SendOutcome) (attempts : Nat) (entries : List TxEntry) :
    (resultsOf p outcome attempts entries).length = confirmedIn entries := by
  induction entries generalizing attempts with
  | nil => rfl
  | cons e rest ih =>
    obtain ⟨tag, data, request⟩ := e
    cases request <;> simp [resultsOf, ih, confirmedIn]

/-- The confirmed entries of all ports, as a sum over the ports. -/
theorem State.confirmedEntries_eq_sum (s : State) : s.confirmedEntries = ∑ p : PortIx, confirmedIn s.ports[p].queue := by
  have hlist : s.ports.toList = List.ofFn fun p : PortIx => s.ports[p] := by
    refine List.ext_getElem (by rw [Vector.length_toList, List.length_ofFn]) fun i _ _ => ?_
    rw [Vector.getElem_toList, List.getElem_ofFn]
    rfl
  rw [State.confirmedEntries, hlist, List.map_ofFn, List.sum_ofFn]
  rfl

/-- One port changed changes the sum by its own confirmed entries. -/
theorem State.confirmedEntries_update {s t : State} {p : PortIx} {f : Port → Port} (ht : t.ports = update s.ports p f) :
    t.confirmedEntries + confirmedIn s.ports[p].queue = s.confirmedEntries + confirmedIn (f s.ports[p]).queue := by
  have hself : t.ports[p] = f s.ports[p] := by simp [ht]
  have hother : ∑ q ∈ Finset.univ.erase p, confirmedIn t.ports[q].queue =
      ∑ q ∈ Finset.univ.erase p, confirmedIn s.ports[q].queue :=
    Finset.sum_congr rfl fun q hq => by rw [ht, update_other _ _ _ (Finset.ne_of_mem_erase hq)]
  rw [State.confirmedEntries_eq_sum, State.confirmedEntries_eq_sum, ← Finset.add_sum_erase _ _ (Finset.mem_univ p),
    ← Finset.add_sum_erase _ (fun q : PortIx => confirmedIn s.ports[q].queue) (Finset.mem_univ p), hself, hother]
  omega

theorem State.confirmedEntries_eq_zero {s : State} (h : ∀ p : PortIx, s.ports[p].queue = []) : s.confirmedEntries = 0 := by
  rw [State.confirmedEntries_eq_sum]
  exact Finset.sum_eq_zero fun p _ => by rw [h p]; rfl

theorem State.confirmedIn_le (s : State) (p : PortIx) : confirmedIn s.ports[p].queue ≤ s.confirmedEntries := by
  rw [State.confirmedEntries_eq_sum]
  exact Finset.single_le_sum (f := fun q : PortIx => confirmedIn s.ports[q].queue) (fun _ _ => Nat.zero_le _)
    (Finset.mem_univ p)

/-! ## What a port keeps of its entries -/

/-- The port keeps its confirmed entries, and something in an intake that held something. -/
structure Port.KeepsEntries (pt qt : Port) : Prop where
  confirmed : confirmedIn qt.queue = confirmedIn pt.queue
  intake : qt.intake = [] → pt.intake = []

/-- The PREEMPT test leaves the queue and the intake alone. -/
theorem Port.preempted_entries (pt : Port) : pt.preempted.queue = pt.queue ∧ pt.preempted.intake = pt.intake := by
  unfold Port.preempted
  split_ifs <;> exact ⟨rfl, rfl⟩

namespace Port.KeepsEntries

variable (pt : Port)

theorem refl : pt.KeepsEntries pt := ⟨rfl, id⟩

theorem preempted : pt.KeepsEntries pt.preempted := by
  obtain ⟨hqueue, hintake⟩ := pt.preempted_entries
  exact ⟨congrArg confirmedIn hqueue, fun hnil => hintake.symm.trans hnil⟩

theorem inboundBegins : pt.KeepsEntries pt.inboundBegins := by
  by_cases hq : pt.line.state = .quiet
  · rw [Port.inboundBegins_quiet hq]
    exact ⟨(preempted _).confirmed, (preempted _).intake⟩
  · rw [Port.inboundBegins_not_quiet hq]
    exact .refl pt

theorem clock (edge : Edge) (high : Bool) : pt.KeepsEntries (pt.clock edge high) := by
  unfold Port.clock
  split
  · exact inboundBegins pt
  · exact ⟨rfl, id⟩
  · split_ifs <;> exact ⟨rfl, id⟩
  · exact ⟨rfl, id⟩
  · exact ⟨rfl, id⟩
  · split_ifs <;> exact ⟨rfl, id⟩
  · exact .refl pt

theorem requestToSend (clkHigh dataHigh : Bool) : pt.KeepsEntries (pt.requestToSend clkHigh dataHigh) := by
  unfold Port.requestToSend
  split
  · split_ifs <;> exact ⟨rfl, id⟩
  · exact .refl pt

theorem startBit : pt.KeepsEntries pt.startBit := by
  unfold Port.startBit
  split
  · exact ⟨rfl, id⟩
  · exact .refl pt

theorem cutEnds : pt.KeepsEntries pt.cutEnds := by
  unfold Port.cutEnds
  split
  · exact ⟨rfl, id⟩
  · exact .refl pt

theorem handProbe (clkHigh dataHigh : Bool) : pt.KeepsEntries (pt.handProbe clkHigh dataHigh) := by
  unfold Port.handProbe
  split_ifs <;> exact ⟨rfl, id⟩

theorem probeTimerExpires : pt.KeepsEntries pt.probeTimerExpires := by
  unfold Port.probeTimerExpires
  split <;> exact ⟨rfl, id⟩

theorem receives (f : Frame) : pt.KeepsEntries (pt.receives f) := by
  unfold Port.receives
  by_cases hroom : pt.intake.length < 4
  · rw [if_pos hroom]
    exact ⟨rfl, fun hnil => (List.append_eq_nil_iff.1 hnil).1⟩
  · rw [if_neg hroom]
    exact ⟨rfl, id⟩

theorem keeps (tag : Tag) (data : Byte) (time : Word) : pt.KeepsEntries (pt.keeps tag data time) := by
  unfold Port.keeps
  split_ifs
  · exact ⟨rfl, id⟩
  · exact receives pt _

theorem configured (c : PortConfig) : pt.KeepsEntries (pt.configured c) :=
  ⟨(preempted _).confirmed, (preempted _).intake⟩

end Port.KeepsEntries

/-- The entry that joins a queue is the one entry more. -/
theorem Port.entered_confirmed (pt : Port) (e : TxEntry) :
    confirmedIn (pt.entered e).queue = confirmedIn pt.queue + confirmedIn [e] ∧ (pt.entered e).intake = pt.intake := by
  unfold Port.entered
  split_ifs with hq
  · obtain ⟨hsame, hintake⟩ := Port.preempted_entries
      { pt with queue := [e], line := { pt.line with ready := some ⟨false, e.tag, e.data⟩ } }
    rw [hsame, hintake, hq]
    exact ⟨(Nat.zero_add _).symm, rfl⟩
  · exact ⟨confirmedIn_append _ _, rfl⟩

/-- An ANSWER is not confirmed (R71). -/
theorem Port.KeepsEntries.answers (pt : Port) (tag : Tag) (data : Byte) : pt.KeepsEntries (pt.answers tag data) := by
  unfold Port.answers
  by_cases hroom : pt.presence = .present ∧ pt.queue.length < 4
  · rw [if_pos hroom]
    obtain ⟨hconfirmed, hintake⟩ := pt.entered_confirmed ⟨tag, data, none⟩
    exact ⟨hconfirmed, fun hnil => hintake.symm.trans hnil⟩
  · rw [if_neg hroom]
    exact ⟨rfl, id⟩

/-- The entries that FLUSH_TX removes and those that it keeps make up the queue (R153). -/
theorem Port.flushTx_leaves (pt : Port) :
    confirmedIn pt.queue = confirmedIn pt.flushable + confirmedIn pt.flushTx.queue ∧ pt.flushTx.intake = pt.intake := by
  unfold Port.flushable Port.flushTx
  split_ifs
  · cases hq : pt.queue with
    | nil => exact ⟨by rw [hq]; rfl, rfl⟩
    | cons e rest => exact ⟨rfl, rfl⟩
  · cases hq : pt.queue with
    | nil => exact ⟨rfl, rfl⟩
    | cons e rest =>
      refine ⟨?_, rfl⟩
      rw [Nat.add_comm, ← confirmedIn_append]
      rfl

/-! ## The rules of the ports and the lanes -/

/-- The rules that O60 speaks of, with at most `n` messages queued or reserved in the control lane: 16 by R169, and 15
where a message has room. -/
structure PortsLegal (n : Nat) (s : State) : Prop where
  ports : ∀ p : PortIx, PortLegal s.ports[p]
  deferred : DeferredInv s
  load : s.trunk.control.length + s.trunk.reservations ≤ n
  relays : s.trunk.relays.length ≤ 24
  reserved : s.trunk.reservations = s.confirmedEntries
  guard : s.trunk.controlRun ≤ 8
  receiver : s.trunk.receiver.Good = true
  memory : ∀ m ∈ s.memory, m.Good = true

namespace PortsLegal

variable {n m : Nat} {s : State} (h : PortsLegal n s)
include h

/-! ### The blocks that the rules do not speak of -/

theorem weaken (hm : n ≤ m) : PortsLegal m s := { h with load := h.load.trans hm }

/-- A message that has room leaves the lane one short of full before it joins. -/
theorem roomy (hr : s.trunk.room = true) : PortsLegal 15 s :=
  { h with load := Nat.le_of_lt_succ ((Trunk.room_iff _).1 hr) }

theorem withArbiter (a : Arbiter) : PortsLegal n (s.withArbiter a) := { h with }

theorem onOutput (o : OutputIx) (f : Output → Output) : PortsLegal n (s.onOutput o f) := { h with }

theorem onTally (i : TallyIx) (f : Tally → Tally) : PortsLegal n (s.onTally i f) := { h with }

theorem onLevel (l : LevelIx) (f : Level → Level) : PortsLegal n (s.onLevel l f) := { h with }

theorem withPatterns (v : Vector (Option Pattern) 16) : PortsLegal n (s.withPatterns v) := { h with }

theorem withBank (which : Bank) (v : Vector Slot 48) : PortsLegal n (s.withBank which v) := by
  cases which <;> exact { h with }

/-- The classifier may change in all but the marks of deferred frames. -/
theorem withClassifier {c : Classifier} (hc : c.deferred = s.classifier.deferred) : PortsLegal n (s.withClassifier c) :=
  { h with deferred := fun p hp => h.deferred p (by rw [← hc]; exact hp) }

/-- A mark is set for a frame that waits (R59, R62). -/
theorem setDeferred (p : PortIx) {mark : Bool} (hm : mark = true → s.ports[p].intake ≠ []) :
    PortsLegal n (s.setDeferred p mark) :=
  { h with
    deferred := fun q hq => by
      by_cases hqp : q = p
      · subst hqp
        exact hm (by simpa [State.setDeferred] using hq)
      · have hsame : (s.setDeferred p mark).classifier.deferred[q] = s.classifier.deferred[q] :=
          update_other _ _ _ hqp
        exact h.deferred q (hsame ▸ hq) }

/-! ### The lanes (R167 to R174) -/

theorem withReceiver {receiver : Receiver} (hr : receiver.Good = true) (awaitsMark : Bool) :
    PortsLegal n (s.withTrunk { s.trunk with receiver, awaitsMark }) :=
  { h with receiver := hr }

theorem queueControl (message : ControlMessage) (rate : Option LinkRate) :
    PortsLegal (n + 1) (s.queueControl message rate) :=
  { h with
    load := by
      have := h.load
      simp only [State.queueControl, State.withTrunk, List.length_append, List.length_cons, List.length_nil]
      omega }

theorem overrun : PortsLegal n s.overrun := { h with }

/-- An ALERT joins the lane where it has room (R172). -/
theorem alert (hn : 16 ≤ n) (content : AlertContent) : PortsLegal n (s.alert content) := by
  unfold State.alert
  split
  · next hr =>
    have hqueued := ((h.roomy hr).queueControl (.alert s.trunk.lostAlerts content) none).weaken hn
    exact { hqueued with }
  · exact { h with }

/-- An offer puts its NOTICE where it has room (R27, R28). -/
theorem makeOffer (hn : 16 ≤ n) : PortsLegal n s.makeOffer := by
  rcases s.makeOffer_cases with ⟨he, -⟩ | ⟨l, r, hr, -, -, -, he⟩
  · rwa [he]
  · rw [he]
    exact (((h.roomy ((Trunk.room_iff _).2 hr)).withArbiter _).queueControl _ none).weaken hn

theorem whileRunning {f : State → State} (hf : s.rstnLow = false → PortsLegal n (f s)) :
    PortsLegal n (s.whileRunning f) := by
  cases hlow : s.rstnLow with
  | true => rwa [s.whileRunning_low f hlow]
  | false => rw [s.whileRunning_run f hlow]; exact hf hlow

/-! ### One port replaced -/

/-- A port may be replaced by a legal one that has something in its intake where its mark is set; the reservations follow
its confirmed entries. -/
theorem replacePort (p : PortIx) {f : Port → Port} (hport : PortLegal (f s.ports[p]))
    (hintake : s.classifier.deferred[p] = true → (f s.ports[p]).intake ≠ []) {t : Trunk}
    (hreserved : t.reservations + confirmedIn s.ports[p].queue =
      s.trunk.reservations + confirmedIn (f s.ports[p]).queue)
    (hload : t.control.length + t.reservations ≤ m) (hrelays : t.relays = s.trunk.relays)
    (hguard : t.controlRun = s.trunk.controlRun) (hreceiver : t.receiver = s.trunk.receiver) (a : Arbiter) :
    PortsLegal m { s with ports := update s.ports p f, trunk := t, arbiter := a } where
  ports := forall_update h.ports p hport
  deferred q hq := by
    by_cases hqp : q = p
    · subst hqp
      simpa using hintake hq
    · show (update s.ports p f)[q].intake ≠ []
      rw [update_other _ _ _ hqp]
      exact h.deferred q hq
  load := hload
  relays := hrelays ▸ h.relays
  reserved := by
    have hsum := State.confirmedEntries_update (s := s) (p := p)
      (t := { s with ports := update s.ports p f, trunk := t, arbiter := a }) (f := f) rfl
    have := h.reserved
    show t.reservations = _
    omega
  guard := hguard ▸ h.guard
  receiver := hreceiver ▸ h.receiver
  memory := h.memory

/-- A port that keeps its entries may tell the arbiter of itself. -/
theorem portTells (p : PortIx) {f : Port → Port} (hport : PortLegal (f s.ports[p]))
    (hkeeps : s.ports[p].KeepsEntries (f s.ports[p])) (a : Arbiter) :
    PortsLegal n { s with ports := update s.ports p f, arbiter := a } :=
  h.replacePort p hport (fun hd hnil => h.deferred p hd (hkeeps.intake hnil)) (by rw [hkeeps.confirmed]) h.load rfl rfl
    rfl a

theorem onPort (p : PortIx) {f : Port → Port} (hport : PortLegal (f s.ports[p]))
    (hkeeps : s.ports[p].KeepsEntries (f s.ports[p])) : PortsLegal n (s.onPort p f) :=
  h.portTells p hport hkeeps s.arbiter

/-- Entries that leave a queue turn their reservations into RESULTs (R145, R170). -/
theorem entriesLeave (p : PortIx) (outcome : SendOutcome) (attempts : Nat) {gone : List TxEntry} {f : Port → Port}
    (hport : PortLegal (f s.ports[p])) (hintake : s.classifier.deferred[p] = true → (f s.ports[p]).intake ≠ [])
    (hgone : confirmedIn s.ports[p].queue = confirmedIn gone + confirmedIn (f s.ports[p]).queue) (a : Arbiter) :
    PortsLegal n
      { s with ports := update s.ports p f, trunk := s.trunk.resulted p outcome attempts gone, arbiter := a } := by
  have hle := s.confirmedIn_le p
  have hreserved := h.reserved
  have hload := h.load
  refine h.replacePort (t := s.trunk.resulted p outcome attempts gone) p hport hintake ?_ ?_ rfl rfl rfl a
  · simp only [Trunk.resulted]
    omega
  · simp only [Trunk.resulted, List.length_append, length_resultsOf]
    omega

/-- The head leaves with one outcome and the rest of the queue with another (R138, R147). -/
theorem queueLeaves (p : PortIx) (first second : SendOutcome) (attempts others : Nat) {head rest : List TxEntry}
    {f : Port → Port} (hport : PortLegal (f s.ports[p]))
    (hintake : s.classifier.deferred[p] = true → (f s.ports[p]).intake ≠ [])
    (hgone : confirmedIn s.ports[p].queue = confirmedIn head + confirmedIn rest) (hempty : (f s.ports[p]).queue = [])
    (a : Arbiter) :
    PortsLegal n
      { s with
        ports := update s.ports p f
        trunk := (s.trunk.resulted p first attempts head).resulted p second others rest
        arbiter := a } := by
  have hle := s.confirmedIn_le p
  have hreserved := h.reserved
  have hload := h.load
  refine h.replacePort (t := (s.trunk.resulted p first attempts head).resulted p second others rest) p hport hintake ?_
    ?_ rfl rfl rfl a
  · rw [hempty]
    simp only [Trunk.resulted]
    show _ = s.trunk.reservations + 0
    omega
  · simp only [Trunk.resulted, List.length_append, length_resultsOf]
    omega

/-- The line of a port comes to rest at the end of an inbound frame. -/
theorem lineRests (p : PortIx) {bits : List Bool} {low gone : Bool}
    (ha : s.ports[p].line.activity = .inbound bits low gone) : PortsLegal n (s.lineDoes p .none) :=
  h.onPort p ((h.ports p).endInbound ha) ⟨rfl, id⟩

omit h in
theorem lineRests_activity (p : PortIx) : (s.lineDoes p .none).ports[p].line.activity = .none :=
  congrArg (fun pt : Port => pt.line.activity) (s.onPort_self p _)

/-! ### Frames (R115, R118, R133, R138 to R142) -/

theorem receivedFrame (p : PortIx) (ha : s.ports[p].line.activity = .none) (tag : Tag) (data : Byte) :
    PortsLegal n (s.receivedFrame p tag data) := by
  have hport := h.ports p
  have hcounted : PortLegal s.ports[p].countReceived := hport.withStats _
  cases hp : s.ports[p].presence with
  | disabled =>
    rw [State.receivedFrame_disabled tag data hp]
    split_ifs
    · exact h.onPort p hcounted ⟨rfl, id⟩
    · exact h.onPort p (hcounted.withStats _) ⟨rfl, id⟩
  | absent =>
    rw [State.receivedFrame_absent tag data ha hport hp]
    refine h.portTells p ((hcounted.arrives hp ha).keeps ha (by simp [Port.arrives]) _ _ _) ?_ _
    exact ⟨(Port.KeepsEntries.keeps _ _ _ _).confirmed, (Port.KeepsEntries.keeps _ _ _ _).intake⟩
  | present =>
    rw [State.receivedFrame_present tag data ha hport hp]
    refine h.onPort p ((hport.heard ha _).keeps ha (by show s.ports[p].presence ≠ _; rw [hp]; decide) _ _ _) ?_
    exact ⟨(Port.KeepsEntries.keeps _ _ _ _).confirmed, (Port.KeepsEntries.keeps _ _ _ _).intake⟩
  | faulted =>
    rw [State.receivedFrame_faulted tag data ha hport hp]
    refine h.onPort p (hcounted.keeps ha (by show s.ports[p].presence ≠ _; rw [hp]; decide) _ _ _) ?_
    exact ⟨(Port.KeepsEntries.keeps _ _ _ _).confirmed, (Port.KeepsEntries.keeps _ _ _ _).intake⟩

theorem lineError (p : PortIx) (ha : s.ports[p].line.activity = .none) : PortsLegal n (s.lineError p) := by
  have hport := h.ports p
  by_cases hp : s.ports[p].presence = .absent ∨ s.ports[p].presence = .present
  · obtain ⟨hrun, -⟩ := hport.runs hp
    by_cases hlast : s.ports[p].lineErrorRun = 7
    · rw [State.lineError_faults hp hlast ha]
      refine h.entriesLeave p .portFaulted _ ?_ ?_ ?_ _
      · exact hport.faults hp ha _ (by omega) hport.sendFailures
      · exact h.deferred p
      · exact (Nat.add_zero _).symm
    · have hless : s.ports[p].lineErrorRun < 7 := by omega
      rw [State.lineError_advances hp hless]
      exact h.onPort p (hport.advanceRun hless) ⟨rfl, id⟩
  · rw [State.lineError_counted (by cases hq : s.ports[p].presence <;> simp_all)]
    exact h.onPort p (hport.withStats _) ⟨rfl, id⟩

theorem inboundEnds (p : PortIx) : PortsLegal n (s.inboundEnds p) := by
  unfold State.inboundEnds
  dsimp only
  split
  · next bits low gone ha =>
    have hrests := h.lineRests p ha
    have hidle := lineRests_activity (s := s) p
    split_ifs
    · exact h
    · exact hrests
    · exact hrests.receivedFrame p hidle _ _
    · exact hrests.lineError p hidle
  · exact h

theorem inboundBreaks (p : PortIx) : PortsLegal n (s.inboundBreaks p) := by
  unfold State.inboundBreaks
  dsimp only
  split
  · next bits low gone ha =>
    have hrests := h.lineRests p ha
    split_ifs
    · exact hrests
    · exact hrests.lineError p (lineRests_activity p)
    · exact h
  · exact h

/-! ### Attempts (R121, R122, R133, R134, R146, R147) -/

/-- An attempt that comes to its end in a row: each of its outcomes is a port in its rules. -/
theorem attemptEnding {t : State} {p : PortIx} {i : Instr} {answered : Bool} {failure : SendOutcome}
    (hlow : s.rstnLow = false) (hend : AttemptEnding s p i answered failure) (he : exec i s = .next t) :
    PortsLegal n t := by
  have hport := h.ports p
  obtain ⟨hready, -, -⟩ := Line.good_attempting hport.line hend.attempting
  have hpreempt : s.ports[p].line.reasons.preempt = false := by
    refine hport.preempt_withdrawn ?_
    rcases hend with ⟨-, -, low, ha⟩ | ⟨-, -, -, ha | ⟨given, low, a, -, ha⟩⟩
    · exact .inr ⟨_, _, _, ha⟩
    · exact .inl ha
    · exact .inr ⟨_, _, _, ha⟩
  obtain ⟨r, hr⟩ := Option.isSome_iff_exists.1 hready
  obtain ⟨hanswered, hsilent, hentry⟩ := attemptsEnd s p i r answered failure hlow ((portInv_iff _).2 hport) hr hend
  have hlast {u : State} (heq : exec i s = .next u) (hu : PortsLegal n u) : PortsLegal n t := by
    cases he.symm.trans heq
    exact hu
  cases hprobe : r.probe with
  | true =>
    have habsent := hport.absent_of_probe hr hprobe
    have hover := hport.probeOver habsent
    cases ha : answered with
    | true =>
      refine hlast (hanswered hprobe ha) (h.portTells p (hover.arrives habsent rfl) ?_ _)
      exact ⟨rfl, id⟩
    | false => exact hlast (hsilent hprobe ha) (h.onPort p hover ⟨rfl, id⟩)
  | false =>
    obtain ⟨hpresent, e, rest, hqueue, -⟩ := hport.head_of_ready hr hprobe
    obtain ⟨hdelivered, hagain, hfails⟩ := hentry e rest hprobe hqueue
    obtain ⟨-, hruns⟩ := hport.runs (.inr hpresent)
    have hrest : rest.Sublist s.ports[p].queue := hqueue ▸ List.sublist_cons_self e rest
    have hconfirmed : confirmedIn s.ports[p].queue = confirmedIn [e] + confirmedIn rest := by
      rw [hqueue, ← confirmedIn_append]; rfl
    have hleft {failures : Nat} (hf : failures < 4) (stats : Statistics) :=
      hport.nextHead hpresent hpreempt hrest (Nat.zero_lt_succ _ : 0 < 3) (fun _ => rfl) hf stats
    cases ha : answered with
    | true =>
      refine hlast (hdelivered ha) (h.entriesLeave p .delivered _ ?_ (h.deferred p) hconfirmed _)
      exact hleft (failures := 0) (Nat.zero_lt_succ _) _
    | false =>
      have hattempts := hport.attemptsRoom
      by_cases hthree : s.ports[p].attempts = 3
      · obtain ⟨hfailed, hfaults⟩ := hfails ha hthree
        by_cases hfourth : s.ports[p].sendFailureRun = 3
        · refine hlast (hfaults hfourth) (h.queueLeaves p failure .portFaulted 3 0 ?_ (h.deferred p) hconfirmed rfl _)
          exact (hleft hruns s.ports[p].stats).faults (.inr hpresent) rfl _ hport.lineErrors (by omega)
        · have hrun : s.ports[p].sendFailureRun < 3 := by omega
          refine hlast (hfailed hrun) (h.entriesLeave p failure _ ?_ (h.deferred p) hconfirmed _)
          exact hleft (failures := s.ports[p].sendFailureRun + 1) (by omega) _
      · have hn : s.ports[p].attempts < 3 := by omega
        refine hlast (hagain ha hn) (h.onPort p ?_ ?_)
        · exact hport.nextHead hpresent hpreempt (hqueue ▸ List.Sublist.refl _) hn (fun hnil => by cases hnil) hruns _
        · exact ⟨by rw [hqueue], id⟩

/-! ### Silence, DISABLE and FLUSH_TX (R137, R139, R152, R153) -/

theorem goSilent (p : PortIx) (hs : s.ports[p].silenceTimer.isSome = true) : PortsLegal n (s.goSilent p) := by
  have hport := h.ports p
  obtain ⟨hpresent, -⟩ := hport.silence hs
  rw [State.goSilent_eq]
  exact h.entriesLeave p .portAbsent _ (hport.gone hpresent hs) (h.deferred p) (Nat.add_zero _).symm _

theorem disablePort (p : PortIx) : PortsLegal n (s.disablePort p) := by
  rw [State.disablePort_eq (h.ports p)]
  have hunmarked := h.setDeferred p (mark := false) (by simp)
  refine hunmarked.entriesLeave p .portDisabled _ (h.ports p).shut (fun hmarked => ?_) (Nat.add_zero _).symm s.arbiter
  simp [State.setDeferred] at hmarked

theorem flushTx (p : PortIx) : PortsLegal n (s.flushTx p) := by
  obtain ⟨hconfirmed, hintake⟩ := s.ports[p].flushTx_leaves
  rw [State.flushTx_eq]
  exact h.entriesLeave p .flushed 0 (h.ports p).flushTx (fun hd => hintake ▸ h.deferred p hd) hconfirmed s.arbiter

end PortsLegal

end Sys2Proof.Machine
end

section
/-! PROOFS. The rules of the ports and the lanes, kept by a classification, the handshake, the resets and the requests. -/

namespace Sys2Proof.Machine

/-! ## The classifier (chapter 3) -/

theorem Selector.action_good {e : Selector} (h : e.Good = true) : e.action.Good = true := by
  simp only [Selector.Good, Bool.or_eq_true, beq_iff_eq, Bool.and_eq_true] at h
  rcases h with rfl | ⟨-, haction⟩
  · rfl
  · exact haction

/-- No ANSWER of the bank in force has tag 7 (R72). -/
theorem ClassifierInv.action_good {s : State} (h : ClassifierInv s.classifier) (i : EntryIx) :
    (s.action i).Good = true :=
  Selector.action_good (h.bank s.classifier.active i)

theorem Action.tag_of_good {tag : Tag} {data : Byte} (h : Action.Good (.answer tag data) = true) : tag ≠ 7 := by
  simpa [Action.Good] using h

theorem State.effects_classifier (s : State) (p : PortIx) (f : Frame) (action : EntryIx → Action) (list : List EntryIx) :
    (s.effects p f action list).classifier = s.classifier := by
  induction list generalizing s with
  | nil => rfl
  | cons i rest ih => exact (ih _).trans (s.act_classifier p f i _)

theorem Classifier.countHits_deferred (c : Classifier) (list : List EntryIx) :
    (c.countHits list).deferred = c.deferred := by
  unfold Classifier.countHits
  cases c.active <;> rfl

theorem Port.headGone_queue (pt : Port) : pt.headGone.queue = pt.queue := by
  unfold Port.headGone
  split_ifs <;> rfl

/-- A configuration that is read from its bytes has its silence limit in range (R151). -/
theorem portConfig?_limit {settings presence fault : Byte} {limit : Word} {c : PortConfig}
    (hc : portConfig? settings limit presence fault = some c) : silenceLimitOk c.silenceLimit = true := by
  unfold portConfig? at hc
  by_cases hlimit : settings &&& 0xF8 = 0 ∧ silenceLimitOk limit.toNat = true
  · rw [if_pos hlimit] at hc
    simp only [Option.bind_eq_bind, Option.bind_eq_some_iff] at hc
    obtain ⟨_, -, _, -, hc⟩ := hc
    cases hc
    exact hlimit.2
  · rw [if_neg hlimit] at hc
    cases hc

namespace PortsLegal

section
variable {n m : Nat} {s : State} (h : PortsLegal n s)
include h

/-- An action that relays nothing changes its own port at most, and that by an ANSWER (R66, R71). -/
theorem act (p : PortIx) (f : Frame) (i : EntryIx) {a : Action} (ha : a.Good = true) :
    PortsLegal n (s.act p f i false a) := by
  have hport : PortsLegal n (s.onPort p a.onPort) := by
    cases a with
    | answer tag data =>
      have hanswers := (s.ports[p]).answer_answers tag data (h.ports p).settled.ready (h.ports p).settled.held
      refine h.onPort p ?_ ?_
      · show PortLegal (s.ports[p].answer tag data)
        rw [hanswers]
        exact (h.ports p).answers (Action.tag_of_good ha) data
      · show s.ports[p].KeepsEntries (s.ports[p].answer tag data)
        rw [hanswers]
        exact .answers _ tag data
    | _ => exact h.onPort p (h.ports p) (.refl _)
  rw [State.act_eq]
  cases a <;> exact { hport with }

theorem effects (p : PortIx) (f : Frame) {action : EntryIx → Action} (ha : ∀ i, (action i).Good = true)
    (list : List EntryIx) : PortsLegal n (s.effects p f action list) := by
  induction list generalizing s with
  | nil => exact h
  | cons i rest ih => exact ih (h.act p f i (ha i))

/-- A RELAY joins the lane where it has room, and is dropped and counted where it has none (R67, R68). -/
theorem relayIf (p : PortIx) (f : Frame) (due : Bool) (entry : Option EntryIx) :
    PortsLegal n (s.relayIf p f due entry) := by
  unfold State.relayIf State.forward
  split_ifs with hdue hfull
  · exact h.onPort p (h.ports p).dropRelay ⟨rfl, id⟩
  · rw [Trunk.relayFull_iff] at hfull
    exact
      { h with
        relays := by
          simp only [State.withTrunk, List.length_append, List.length_cons, List.length_nil]
          omega }
  · exact h

/-- The head frame leaves an intake whose mark is cleared with it (R57, R65). -/
theorem dropHead (p : PortIx) : PortsLegal n ((s.onPort p Port.dropHead).setDeferred p false) := by
  have hunmarked := h.setDeferred p (mark := false) (by simp)
  have hgone := (s.ports[p]).dropHead_headGone (h.ports p).backpressure
  refine hunmarked.replacePort (f := Port.dropHead) (t := s.trunk) p ?_ (fun hmarked => ?_) ?_ h.load rfl rfl rfl
    s.arbiter
  · show PortLegal s.ports[p].dropHead
    rw [hgone]
    exact (h.ports p).headGone
  · simp [State.setDeferred] at hmarked
  · show _ = s.trunk.reservations + confirmedIn s.ports[p].dropHead.queue
    rw [hgone, Port.headGone_queue]
    rfl

theorem classifyFrame (hc : ClassifierInv s.classifier) (p : PortIx) (f : Frame) (hi : s.ports[p].intake ≠ []) :
    PortsLegal n (s.classifyFrame p f) := by
  cases hd : s.mustDefer p (s.classifier.collected p f) with
  | true =>
    rw [s.classifyFrame_deferred p f hd]
    exact h.setDeferred p fun _ => hi
  | false =>
    rw [s.classifyFrame_performed p f rfl hd]
    have heffects := h.effects p f hc.action_good (s.classifier.collected p f)
    refine PortsLegal.dropHead (PortsLegal.relayIf (heffects.withClassifier ?_) p f _ _) p
    rw [Classifier.countHits_deferred, State.effects_classifier]

theorem classify (hc : ClassifierInv s.classifier) : PortsLegal n s.classify := by
  unfold State.classify
  split
  · exact h
  · next p _ =>
    split
    · exact h
    · next f rest hi =>
      have hmoved : PortsLegal n (s.moveGrant p) := h.withClassifier rfl
      refine hmoved.classifyFrame hc p f ?_
      show s.ports[p].intake ≠ []
      rw [hi]
      exact List.cons_ne_nil f rest

theorem assertOptional (l : Option LevelIx) (source : Source) (data : Byte) :
    PortsLegal n (s.assertOptional l source data) := by
  rw [State.assertOptional_eq]
  exact h.withArbiter _

theorem phaseEnds (o : OutputIx) : PortsLegal n (s.phaseEnds o) := by
  unfold State.phaseEnds
  split
  · exact h
  · dsimp only
    split
    · exact (h.assertOptional _ _ _).onOutput o _
    · exact h.onOutput o _

end

/-! ## The handshake (chapter 2) -/

section
variable {s : State} (h : PortsLegal 16 s)
include h

/-- A message that has room joins the control lane. -/
theorem queueRoomy (hr : s.trunk.room = true) (message : ControlMessage) (rate : Option LinkRate) :
    PortsLegal 16 (s.queueControl message rate) :=
  (h.roomy hr).queueControl message rate

theorem alertIn (content : AlertContent) : PortsLegal 16 (s.alert content) := h.alert le_rfl content

theorem take (number : Byte) : PortsLegal 16 (s.take number) := by
  unfold State.take
  split
  · next hr =>
    split
    · exact h.queueRoomy hr _ _
    · split
      · exact (PortsLegal.queueRoomy (h.withArbiter _) hr _ _).withArbiter _
      · exact (h.queueRoomy hr _ _).withArbiter _
  · exact h.overrun

theorem done (value : Byte) : PortsLegal 16 (s.done value) := by
  unfold State.done
  split
  · split
    · exact h.withArbiter _
    · exact h.alertIn _
  · split
    · exact h.withArbiter _
    · exact h.alertIn _

theorem recallTaken (value : Byte) : PortsLegal 16 (s.recall value) := by
  unfold State.recall
  split
  · next hr =>
    split
    · exact h.queueRoomy hr _ _
    · exact h.alertIn _
  · exact h.overrun

theorem lapse (l : LevelIx) : PortsLegal 16 (s.lapse l) := by
  unfold State.lapse
  dsimp only
  split
  · exact (h.withArbiter _).alertIn _
  · exact h.withArbiter _

end

/-! ## Resets (Table 0-4) -/

section
variable {n m : Nat} {s : State} (h : PortsLegal n s)
include h

/-- A reset that flushes both lanes and empties every queue leaves no reservation and no mark. -/
theorem flushed {t : State} (hports : ∀ p : PortIx, PortLegal t.ports[p] ∧ t.ports[p].queue = [])
    (hmarks : ∀ p : PortIx, t.classifier.deferred[p] = false) (htrunk : t.trunk = s.trunk.flush)
    (hmemory : ∀ x ∈ t.memory, x ∈ s.memory) : PortsLegal m t where
  ports p := (hports p).1
  deferred p hp := by simp [hmarks p] at hp
  load := by rw [htrunk]; exact Nat.zero_le _
  relays := by rw [htrunk]; exact Nat.zero_le _
  reserved := by rw [State.confirmedEntries_eq_zero fun p => (hports p).2, htrunk]; rfl
  guard := by rw [htrunk]; exact Nat.zero_le _
  receiver := by rw [htrunk]; exact h.receiver
  memory x hx := h.memory x (hmemory x hx)

theorem resetTrafficScope : PortsLegal m s.resetTrafficScope := by
  refine h.flushed ?_ (forall_replicate (P := fun b => b = false) rfl) rfl fun _ hx => hx
  refine forall_mapAll (P := fun pt : Port => PortLegal pt ∧ pt.queue = []) fun p => ⟨(h.ports p).resetTraffic, ?_⟩
  obtain ⟨-, hqueue, -⟩ := s.ports[p].resetTraffic_trafficGone
  exact hqueue

theorem resetConfigScope : PortsLegal m s.resetConfigScope := by
  refine h.flushed ?_ (forall_replicate (P := fun b => b = false) rfl) rfl fun _ hx => hx
  exact forall_mapAll (P := fun pt : Port => PortLegal pt ∧ pt.queue = []) fun p => ⟨(h.ports p).resetConfig, rfl⟩

theorem resetLink : PortsLegal m s.resetLink :=
  { h.resetTrafficScope (m := m) with memory := fun _ hx => by cases hx }

omit h in
/-- A COLD reset leaves a part at rest, with nothing queued. -/
theorem resetCold (s : State) : PortsLegal n s.resetCold where
  ports := forall_replicate (P := PortLegal) .cold
  deferred p hp := by
    have hclear : s.resetCold.classifier.deferred[p] = false := forall_replicate (P := fun b => b = false) rfl p
    simp [hclear] at hp
  load := Nat.zero_le _
  relays := Nat.zero_le _
  reserved := (State.confirmedEntries_eq_zero (forall_replicate (P := fun pt : Port => pt.queue = []) rfl)).symm
  guard := Nat.zero_le _
  receiver := rfl
  memory _ hx := by cases hx

/-! ## What the commands carry out (R178 to R185) -/

theorem inRange {α : Type} {x : Option α} {k : α → Executed} (hk : ∀ a, x = some a → PortsLegal n (k a).state) :
    PortsLegal n (inRange s x k).state := by
  cases x with
  | none => exact h
  | some a => exact hk a rfl

theorem cmdGetStatus (arguments : List Byte) : PortsLegal n (cmdGetStatus arguments s).state := by
  unfold Machine.cmdGetStatus
  split
  · refine h.inRange fun clear _ => ?_
    cases clear <;> exact { h with }
  · exact h

theorem cmdSetLink (arguments : List Byte) : PortsLegal n (cmdSetLink arguments s).state := by
  unfold Machine.cmdSetLink
  split
  · exact h.inRange fun _ _ => h
  · exact h

theorem resetOf {scope : Byte} {f : State → State} (hf : resetOf scope = some f) : PortsLegal n (f s) := by
  unfold Machine.resetOf at hf
  split at hf
  · cases hf; exact h.withArbiter _
  split at hf
  · cases hf; exact h.resetTrafficScope
  split at hf
  · cases hf; exact h.resetConfigScope
  · cases hf

theorem cmdReset (arguments : List Byte) : PortsLegal n (cmdReset arguments s).state := by
  unfold Machine.cmdReset
  split
  · exact h.inRange fun _ hf => h.resetOf hf
  · exact h

theorem cmdConfigureLevel (arguments : List Byte) : PortsLegal n (cmdConfigureLevel arguments s).state := by
  unfold Machine.cmdConfigureLevel
  split
  · exact h.inRange fun l _ => h.inRange fun _ _ => h.inRange fun _ _ => h.onLevel l _
  · exact h

theorem cmdConfigureBand (arguments : List Byte) : PortsLegal n (cmdConfigureBand arguments s).state := by
  unfold Machine.cmdConfigureBand
  split
  · exact h.inRange fun _ _ => h.inRange fun _ _ => h.inRange fun _ _ => h.withArbiter _
  · exact h

theorem cmdSetMasks (arguments : List Byte) : PortsLegal n (cmdSetMasks arguments s).state := by
  unfold Machine.cmdSetMasks
  split
  · exact h.inRange fun _ _ => h.withArbiter _
  · exact h

theorem cmdAssertLevel (arguments : List Byte) : PortsLegal n (cmdAssertLevel arguments s).state := by
  unfold Machine.cmdAssertLevel
  split
  · exact h.inRange fun l _ => h.onLevel l _
  · exact h

theorem cmdWithdrawLevel (arguments : List Byte) : PortsLegal n (cmdWithdrawLevel arguments s).state := by
  unfold Machine.cmdWithdrawLevel
  split
  · exact h.inRange fun l _ => h.onLevel l _
  · exact h

theorem cmdReadLevel (arguments : List Byte) : PortsLegal n (cmdReadLevel arguments s).state := by
  unfold Machine.cmdReadLevel
  split
  · exact h.inRange fun _ _ => h
  · exact h

theorem cmdSetArbiter (arguments : List Byte) : PortsLegal n (cmdSetArbiter arguments s).state := by
  unfold Machine.cmdSetArbiter
  split
  · refine h.inRange fun _ _ => ?_
    split
    · exact h.withArbiter _
    · exact h
  · exact h

theorem cmdLoadSelector (arguments : List Byte) : PortsLegal n (cmdLoadSelector arguments s).state := by
  unfold Machine.cmdLoadSelector
  split
  · exact h.inRange fun _ _ => h.inRange fun _ _ => h.withBank _ _
  · exact h

theorem cmdClearShadow (arguments : List Byte) : PortsLegal n (cmdClearShadow arguments s).state := by
  unfold Machine.cmdClearShadow
  split
  · exact h.withBank _ _
  · exact h

theorem cmdCopyActive (arguments : List Byte) : PortsLegal n (cmdCopyActive arguments s).state := by
  unfold Machine.cmdCopyActive
  split
  · exact h.withBank _ _
  · exact h

theorem cmdCommitSelectors (arguments : List Byte) : PortsLegal n (cmdCommitSelectors arguments s).state := by
  unfold Machine.cmdCommitSelectors
  split
  · exact h.withClassifier rfl
  · exact h

theorem cmdReadSelector (arguments : List Byte) : PortsLegal n (cmdReadSelector arguments s).state := by
  unfold Machine.cmdReadSelector
  split
  · refine h.inRange fun which _ => h.inRange fun _ _ => h.inRange fun clear _ => ?_
    cases clear
    · exact h
    · exact h.withBank which _
  · exact h

theorem cmdConfigureTally (arguments : List Byte) : PortsLegal n (cmdConfigureTally arguments s).state := by
  unfold Machine.cmdConfigureTally
  split
  · exact h.inRange fun i _ => h.inRange fun _ _ => h.onTally i _
  · exact h

theorem cmdReadTally (arguments : List Byte) : PortsLegal n (cmdReadTally arguments s).state := by
  unfold Machine.cmdReadTally
  split
  · refine h.inRange fun i _ => h.inRange fun clear _ => ?_
    cases clear
    · exact h
    · exact h.onTally i _
  · exact h

theorem cmdLoadPattern (arguments : List Byte) : PortsLegal n (cmdLoadPattern arguments s).state := by
  unfold Machine.cmdLoadPattern
  split
  · exact h.inRange fun _ _ => h.inRange fun _ _ => h.withPatterns _
  · exact h

theorem cmdStartSignal (arguments : List Byte) : PortsLegal n (cmdStartSignal arguments s).state := by
  unfold Machine.cmdStartSignal
  split
  · refine h.inRange fun o _ => h.inRange fun _ _ => ?_
    split
    · exact h
    · exact h.onOutput o _
  · exact h

theorem cmdStopSignal (arguments : List Byte) : PortsLegal n (cmdStopSignal arguments s).state := by
  unfold Machine.cmdStopSignal
  split
  · exact h.inRange fun o _ => h.onOutput o _
  · exact h

theorem cmdReadSignal (arguments : List Byte) : PortsLegal n (cmdReadSignal arguments s).state := by
  unfold Machine.cmdReadSignal
  split
  · exact h.inRange fun _ _ => h
  · exact h

/-! ### The commands of the ports (section 7.8) -/

theorem cmdConfigurePort (arguments : List Byte) : PortsLegal n (cmdConfigurePort arguments s).state := by
  unfold Machine.cmdConfigurePort
  split
  · refine h.inRange fun p _ => h.inRange fun c hc => h.onPort p ?_ ?_
    · rw [(h.ports p).configure_eq c]
      exact (h.ports p).configured (portConfig?_limit hc)
    · rw [(h.ports p).configure_eq c]
      exact .configured _ c
  · exact h

theorem controlEnable (p : PortIx) : PortsLegal n (controlEnable p s).state := by
  by_cases hp : s.ports[p].presence = .disabled ∨ s.ports[p].presence = .faulted
  · rw [controlEnable_enables (h.ports p) hp]
    exact h.onPort p ((h.ports p).opened hp) ⟨rfl, id⟩
  · rw [controlEnable_keeps (by cases hq : s.ports[p].presence <;> simp_all)]
    exact h

theorem controlDisable (p : PortIx) : PortsLegal n (controlDisable p s).state := by
  by_cases hp : s.ports[p].presence = .disabled
  · rw [controlDisable_keeps hp]
    exact h
  · rw [controlDisable_disables (h.ports p) hp]
    exact h.disablePort p

theorem controlProbeNow (p : PortIx) : PortsLegal n (controlProbeNow p s).state := by
  unfold Machine.controlProbeNow
  split
  · next hp => exact h.onPort p ((h.ports p).setDue hp) ⟨rfl, id⟩
  · exact h

theorem controlOf {action : Byte} {f : PortIx → State → Executed} (hf : controlOf action = some f) (p : PortIx) :
    PortsLegal n (f p s).state := by
  unfold Machine.controlOf at hf
  split at hf
  · cases hf; exact h.controlEnable p
  split at hf
  · cases hf; exact h.controlDisable p
  split at hf
  · cases hf; exact h.controlProbeNow p
  split at hf
  · cases hf; exact h.flushTx p
  · cases hf

theorem cmdPortControl (arguments : List Byte) : PortsLegal n (cmdPortControl arguments s).state := by
  unfold Machine.cmdPortControl
  split
  · exact h.inRange fun p _ => h.inRange fun _ hf => h.controlOf hf p
  · exact h

theorem cmdReadPort (arguments : List Byte) : PortsLegal n (cmdReadPort arguments s).state := by
  unfold Machine.cmdReadPort
  split
  · refine h.inRange fun p _ => h.inRange fun clear _ => ?_
    have hdrawn : PortsLegal n (if s.ports[p].line.heldWithoutReason then s.withFreeReads (s.freeReads + 1) else s) := by
      split
      · exact { h with }
      · exact h
    cases clear
    · exact hdrawn
    · exact hdrawn.onPort p ((hdrawn.ports p).withStats _) ⟨rfl, id⟩
  · exact h

/-- Whatever a command carries out keeps the rules (Table 9-4). -/
theorem runCommand (c : Command) (arguments : List Byte) : PortsLegal n (runCommand c arguments s).state := by
  cases c with
  | identify => cases arguments <;> exact h
  | getStatus => exact h.cmdGetStatus arguments
  | setLink => exact h.cmdSetLink arguments
  | reset => exact h.cmdReset arguments
  | configureLevel => exact h.cmdConfigureLevel arguments
  | configureBand => exact h.cmdConfigureBand arguments
  | setMasks => exact h.cmdSetMasks arguments
  | assertLevel => exact h.cmdAssertLevel arguments
  | withdrawLevel => exact h.cmdWithdrawLevel arguments
  | readLevel => exact h.cmdReadLevel arguments
  | setArbiter => exact h.cmdSetArbiter arguments
  | readArbiter => cases arguments <;> exact h
  | loadSelector => exact h.cmdLoadSelector arguments
  | clearShadow => exact h.cmdClearShadow arguments
  | copyActive => exact h.cmdCopyActive arguments
  | commitSelectors => exact h.cmdCommitSelectors arguments
  | readSelector => exact h.cmdReadSelector arguments
  | configureTally => exact h.cmdConfigureTally arguments
  | readTally => exact h.cmdReadTally arguments
  | loadPattern => exact h.cmdLoadPattern arguments
  | startSignal => exact h.cmdStartSignal arguments
  | stopSignal => exact h.cmdStopSignal arguments
  | readSignal => exact h.cmdReadSignal arguments
  | configurePort => exact h.cmdConfigurePort arguments
  | portControl => exact h.cmdPortControl arguments
  | readPort => exact h.cmdReadPort arguments

theorem cmdAny (code : Byte) (arguments : List Byte) : PortsLegal n (cmdAny code arguments s).state := by
  unfold Machine.cmdAny
  split
  · exact h
  · exact h.runCommand _ arguments

end

/-! ## Requests (R143, R144, R178 to R185) -/

section
variable {s : State}

/-- An entry joins the queue of a PRESENT port, with its reservation where it is confirmed (R143, R144). -/
theorem entryJoins {n m : Nat} (h : PortsLegal n s) {p : PortIx} (hp : s.ports[p].presence = .present)
    (hroom : s.ports[p].queue.length < 4) {e : TxEntry} (ht : e.tag ≠ 7) {reservations : Nat}
    (hreserved : reservations = s.trunk.reservations + confirmedIn [e])
    (hload : s.trunk.control.length + reservations ≤ m) :
    PortsLegal m { s with
      ports := update s.ports p fun pt => pt.joinQueue e
      trunk := { s.trunk with reservations := reservations } } := by
  have hport := h.ports p
  obtain ⟨hconfirmed, hintake⟩ := s.ports[p].entered_confirmed e
  rw [update_congr s.ports p (f := fun pt => pt.joinQueue e) (g := fun pt => pt.entered e)
    (hport.settled.joinQueue_eq hp e)]
  refine h.replacePort (t := { s.trunk with reservations := reservations }) p (hport.entered hp hroom ht)
    (fun hd => ?_) ?_ hload rfl rfl rfl s.arbiter
  · rw [hintake]; exact h.deferred p hd
  · show reservations + confirmedIn s.ports[p].queue = s.trunk.reservations + confirmedIn (s.ports[p].entered e).queue
    omega

/-- A SEND that is accepted makes its reservation and leaves room for its REPLY (R144). -/
theorem cmdSend (h : PortsLegal 15 s) (sequence port tag data confirm : Byte) :
    PortsLegal 15 (cmdSend sequence port tag data confirm s).state := by
  refine h.inRange fun p _ => h.inRange fun t ht => h.inRange fun confirmed _ => ?_
  dsimp only
  split
  · exact h
  next hpresent =>
  split
  · exact h
  next hfull =>
  split
  · exact h
  next hlane =>
  have hroom : s.ports[p].queue.length < 4 := Nat.lt_of_not_le hfull
  cases confirmed with
  | false => exact h.entryJoins (not_not.1 hpresent) hroom (tag?_good ht) rfl h.load
  | true =>
    refine h.entryJoins (not_not.1 hpresent) hroom (tag?_good ht) rfl ?_
    have hload : ¬ 16 < s.trunk.load + 2 := fun hfull => hlane ⟨rfl, hfull⟩
    show s.trunk.control.length + (s.trunk.reservations + 1) ≤ 15
    unfold Trunk.load at hload
    omega

theorem sequenced (h : PortsLegal 16 s) (sequence code : Byte) (toSend : Bool) {body : State → Executed}
    (hb : PortsLegal 15 s → PortsLegal 15 (body s).state) :
    PortsLegal 16 (s.sequenced sequence code toSend body) := by
  unfold State.sequenced
  split
  · split
    · next hr => exact h.queueRoomy hr _ _
    · exact h.overrun
  · split
    · next hr =>
      have hstored : PortsLegal 15
          ((body s).state.withMemory (some ⟨sequence, replyOf sequence code toSend (body s)⟩)) :=
        { hb (h.roomy hr) with
          memory := fun x hx => by
            cases hx
            simp [Remembered.Good, replyOf] }
      exact hstored.queueControl _ _
    · exact h.overrun

/-- A message that is heard leaves the rules kept for its owner (R41, R163). -/
theorem onMessage (h : PortsLegal 16 s) {owner : State → State}
    (ho : ∀ t, PortsLegal 16 t → PortsLegal 16 (owner t)) : PortsLegal 16 (s.onMessage owner) := by
  unfold State.onMessage
  split
  · exact ho _ ((h.withReceiver rfl false).withArbiter _)
  · exact h

theorem command (h : PortsLegal 16 s) (c : Command) (sequence : Byte) (arguments : List Byte) :
    PortsLegal 16 (s.command c sequence (Machine.runCommand c arguments)) :=
  h.onMessage fun _ ht => ht.sequenced sequence _ _ fun hr => hr.runCommand c arguments

end

end PortsLegal

end Sys2Proof.Machine
end

section
/-! PROOFS. O60: the trunk unit and every row keep the rules of the ports and the lanes. -/

namespace Sys2Proof.Machine

namespace PortsLegal

variable {s : State}

/-! ## The trunk unit (chapter 8) -/

section
variable (h : PortsLegal 16 s)
include h

theorem sampleStop (framingError : Bool) : PortsLegal 16 (s.sampleStop framingError) := { h with }

theorem countLengthError : PortsLegal 16 s.countLengthError := { h with receiver := rfl }

theorem countGapAbort : PortsLegal 16 s.countGapAbort := { h with receiver := rfl }

theorem countCheckError : PortsLegal 16 s.countCheckError := { h with receiver := rfl }

theorem handCommand (m : TrunkMessage) : PortsLegal 16 (s.handCommand m) := by
  unfold State.handCommand
  split
  · exact h.sequenced _ _ _ fun hr => hr.cmdAny _ _
  · exact h.alertIn _

theorem dispatch (m : TrunkMessage) : PortsLegal 16 (s.dispatch m) := by
  unfold State.dispatch
  split
  · split
    · exact h.take _
    · exact h.alertIn _
  split
  · split
    · exact h.done _
    · exact h.alertIn _
  split
  · split
    · exact h.recallTaken _
    · exact h.alertIn _
  split
  · split
    · exact h.sequenced _ _ _ fun hr => hr.cmdSend ..
    · exact h.alertIn _
  split
  · exact h.handCommand m
  · exact h.alertIn _

theorem judge (bytes : List Byte) (damaged : Bool) : PortsLegal 16 (s.judge bytes damaged) := by
  unfold State.judge
  split
  · exact h.countCheckError
  · split
    · split
      · exact h.onMessage fun _ ht => ht.dispatch _
      · exact h.countCheckError
    · exact h.countCheckError

/-- A character joins a message whose Length is in range and whose end is still to come (R161). -/
theorem collectByte {collected : List Byte} {damaged : Bool} (hb : Receiver.Good (.body collected damaged) = true)
    (damaged' : Bool) (value : Byte) : PortsLegal 16 (s.collectByte collected damaged' value) := by
  unfold State.collectByte
  split
  · split
    · exact h.countLengthError
    · next hlength =>
      refine { h with receiver := ?_ }
      simp only [Receiver.Good, State.withTrunk, List.length_nil, Bool.and_eq_true, decide_eq_true_eq]
      omega
  · next length rest =>
    split
    · next hmore =>
      refine { h with receiver := ?_ }
      simp only [Receiver.Good, Bool.and_eq_true, decide_eq_true_eq, List.length_cons] at hb hmore
      simp only [Receiver.Good, State.withTrunk, List.cons_append, List.length_append, List.length_cons,
        List.length_nil, Bool.and_eq_true, decide_eq_true_eq]
      omega
    · exact h.judge _ _

theorem takeCharacter (value : Byte) (framingError : Bool) : PortsLegal 16 (s.takeCharacter value framingError) := by
  unfold State.takeCharacter
  split
  · split
    · exact { h with receiver := rfl }
    · exact h
  · next collected damaged hr => exact h.collectByte (hr ▸ h.receiver) _ _
  · exact h

theorem receiveCharacter (value : Byte) (framingError : Bool) :
    PortsLegal 16 (s.receiveCharacter value framingError) := by
  unfold State.receiveCharacter
  split
  · exact h
  · exact (h.sampleStop _).takeCharacter _ _

/-- The head of the control lane leaves it; the starvation guard counts it where a RELAY waits (R167, R168). -/
theorem beginControl {e : ControlEntry} {rest : List ControlEntry} (hc : s.trunk.control = e :: rest)
    (hrun : s.trunk.relays = [] ∨ s.trunk.controlRun < 8) : PortsLegal 16 (s.beginControl e rest) := by
  have hload := h.load
  rw [hc, List.length_cons] at hload
  have hbegun : PortsLegal 16 (s.withTrunk { s.trunk with
      control := rest
      sending := some (s.trunk.transmission (.control e.message) e.pendingRate)
      sequence := s.trunk.sequence + 1
      controlRun := if s.trunk.relays.isEmpty then 0 else s.trunk.controlRun + 1 }) :=
    { h with
      load := by show rest.length + s.trunk.reservations ≤ 16; omega
      guard := by
        simp only [State.withTrunk]
        split
        · exact Nat.zero_le _
        · next hwaits =>
          refine hrun.resolve_left fun hnone => hwaits ?_
          rw [hnone]
          rfl }
  unfold State.beginControl
  dsimp only
  split
  · exact hbegun
  · exact hbegun.makeOffer le_rfl

theorem beginRelay {r : Relay} {rest : List Relay} (hr : s.trunk.relays = r :: rest) :
    PortsLegal 16 (s.beginRelay r rest) := by
  have hrelays := h.relays
  rw [hr, List.length_cons] at hrelays
  exact
    { h with
      relays := Nat.le_of_succ_le hrelays
      guard := Nat.zero_le _ }

theorem beginTransmission : PortsLegal 16 s.beginTransmission := by
  unfold State.beginTransmission
  split
  · next hc hr => exact h.beginControl hc (.inl hr)
  · next hr => exact h.beginRelay hr
  · next hc hr =>
    split
    · next hrun => exact h.beginControl hc (.inr hrun)
    · exact h.beginRelay hr
  · exact h

theorem endTransmission : PortsLegal 16 s.endTransmission := by
  unfold State.endTransmission
  split
  · exact h
  · exact { h with }

/-! ## Breaks and the two rows of a COLD reset (R165, R173, R177) -/

theorem detectBreak : PortsLegal 16 s.detectBreak := { h.resetLink (m := 16) with receiver := rfl }

theorem endBreak : PortsLegal 16 s.endBreak := (h.withReceiver (receiver := .hunt) rfl false).alertIn _

theorem release : PortsLegal 16 s.release := by
  have hhunts : PortsLegal 16 (((s.withTrunk { s.trunk with receiver := .hunt }).withTimer 0).withRstnLow false) :=
    { h with receiver := rfl }
  exact hhunts.alertIn _

/-! ## The ends of an attempt (R121, R122) -/

theorem attemptSlotEnds (hlow : s.rstnLow = false) (p : PortIx) : PortsLegal 16 (s.attemptSlotEnds p) := by
  cases ha : s.ports[p].line.activity with
  | outbound given low answered =>
    obtain ⟨-, -, -, -, hle, -⟩ := Line.good_outbound (h.ports p).line ha
    by_cases hg : given < 15
    · simp only [State.attemptSlotEnds, ha, if_pos hg]
      exact h
    · obtain rfl : given = 15 := by omega
      exact h.attemptEnding (i := .attemptOutcome p) hlow (.inl ⟨rfl, rfl, low, ha⟩) (exec_running hlow rfl rfl)
  | _ =>
    simp only [State.attemptSlotEnds, ha]
    exact h

theorem attemptTimesOut (hlow : s.rstnLow = false) (p : PortIx) : PortsLegal 16 (s.attemptTimesOut p) := by
  have hends (ha : s.ports[p].line.activity = .awaitClock ∨
      ∃ given low a, given < 15 ∧ s.ports[p].line.activity = .outbound given low a) :
      PortsLegal 16 (s.attemptTimesOut p) :=
    h.attemptEnding (i := .noResponse p) hlow (.inr ⟨rfl, rfl, rfl, ha⟩) (exec_running hlow rfl rfl)
  cases ha : s.ports[p].line.activity with
  | awaitClock => exact hends (.inl ha)
  | outbound given low answered =>
    by_cases hg : given < 15
    · exact hends (.inr ⟨given, low, answered, hg, ha⟩)
    · simp only [State.attemptTimesOut, ha, if_neg hg]
      exact h
  | _ =>
    simp only [State.attemptTimesOut, ha]
    exact h

/-! ## The rows -/

/-- Every row of the table keeps the rules, where no bank holds an ANSWER with tag 7. -/
theorem exec {t : State} (hc : ClassifierInv s.classifier) {i : Instr} (he : exec i s = .next t) : PortsLegal 16 t := by
  cases i <;> cases he
  case coldReset => exact .resetCold s
  case rstnReleased =>
    split
    · exact h.release
    · exact h
  case breakDetected =>
    split
    · exact h.detectBreak
    · exact h
  case breakEnd =>
    refine h.whileRunning fun _ => ?_
    split
    · exact h.endBreak
    · exact h
  case lengthError =>
    split
    · exact (h.sampleStop false).countLengthError
    · exact h
  case checkError =>
    split
    · exact (h.sampleStop false).countCheckError
    · exact h
  case gapAbort =>
    refine h.whileRunning fun _ => ?_
    split
    · exact h.countGapAbort
    · exact h
  case characterComplete value framingError => exact h.whileRunning fun _ => h.receiveCharacter value framingError
  case malformed type sequence payload => exact h.onMessage fun _ ht => ht.dispatch ⟨type, sequence, payload⟩
  case take number => exact h.onMessage fun _ ht => ht.take number
  case done value => exact h.onMessage fun _ ht => ht.done value
  case doneCurrent => exact h.onMessage fun _ ht => ht.done currentCode
  case send sequence port tag data confirm =>
    exact h.onMessage fun _ ht => ht.sequenced _ _ _ fun hr => hr.cmdSend sequence port tag data confirm
  case commandUnknown sequence code arguments =>
    exact h.onMessage fun _ ht => ht.sequenced _ _ _ fun hr => hr.cmdAny code arguments
  case identify sequence arguments => exact h.command .identify sequence arguments
  case getStatus sequence arguments => exact h.command .getStatus sequence arguments
  case setLink sequence arguments => exact h.command .setLink sequence arguments
  case resetArbiter sequence rest => exact h.command .reset sequence (arbiterScope :: rest)
  case resetTraffic sequence rest => exact h.command .reset sequence (trafficScope :: rest)
  case resetConfig sequence rest => exact h.command .reset sequence (configScope :: rest)
  case configureLevel sequence arguments => exact h.command .configureLevel sequence arguments
  case configureBand sequence arguments => exact h.command .configureBand sequence arguments
  case setMasksAssign sequence rest => exact h.command .setMasks sequence (assignOperation :: rest)
  case setMasksMask sequence rest => exact h.command .setMasks sequence (maskOperation :: rest)
  case setMasksUnmask sequence rest => exact h.command .setMasks sequence (unmaskOperation :: rest)
  case assertLevel sequence arguments => exact h.command .assertLevel sequence arguments
  case withdrawLevel sequence arguments => exact h.command .withdrawLevel sequence arguments
  case readLevel sequence arguments => exact h.command .readLevel sequence arguments
  case setArbiter sequence arguments => exact h.command .setArbiter sequence arguments
  case readArbiter sequence arguments => exact h.command .readArbiter sequence arguments
  case loadSelector sequence arguments => exact h.command .loadSelector sequence arguments
  case clearShadow sequence arguments => exact h.command .clearShadow sequence arguments
  case copyActive sequence arguments => exact h.command .copyActive sequence arguments
  case commitSelectors sequence arguments => exact h.command .commitSelectors sequence arguments
  case readSelector sequence arguments => exact h.command .readSelector sequence arguments
  case configureTally sequence arguments => exact h.command .configureTally sequence arguments
  case readTally sequence arguments => exact h.command .readTally sequence arguments
  case loadPattern sequence arguments => exact h.command .loadPattern sequence arguments
  case startSignal sequence arguments => exact h.command .startSignal sequence arguments
  case stopSignal sequence arguments => exact h.command .stopSignal sequence arguments
  case readSignal sequence arguments => exact h.command .readSignal sequence arguments
  case configurePort sequence arguments => exact h.command .configurePort sequence arguments
  case portControlEnable sequence port rest => exact h.command .portControl sequence (port :: enableAction :: rest)
  case portControlDisable sequence port rest => exact h.command .portControl sequence (port :: disableAction :: rest)
  case portControlProbeNow sequence port rest =>
    exact h.command .portControl sequence (port :: probeNowAction :: rest)
  case portControlFlushTx sequence port rest => exact h.command .portControl sequence (port :: flushTxAction :: rest)
  case readPort sequence arguments => exact h.command .readPort sequence arguments
  case offer => exact h.whileRunning fun _ => h.makeOffer le_rfl
  case takeTimerExpiry =>
    refine h.whileRunning fun _ => ?_
    split
    · exact h.lapse _
    · exact h
  case classify => exact h.whileRunning fun _ => h.classify hc
  case phaseEnd output => exact h.whileRunning fun _ => h.phaseEnds output
  case inboundFrameBegins p =>
    exact h.whileRunning fun _ => h.onPort p (h.ports p).inboundBegins (.inboundBegins _)
  case clockGiven p edge high =>
    exact h.whileRunning fun _ => h.onPort p ((h.ports p).clock edge high) (.clock _ edge high)
  case inboundFrame p => exact h.whileRunning fun _ => h.inboundEnds p
  case frameBroken p => exact h.whileRunning fun _ => h.inboundBreaks p
  case probeTimerExpiry p =>
    exact h.whileRunning fun _ => h.onPort p (h.ports p).probeTimerExpires (.probeTimerExpires _)
  case probe p clk data =>
    exact h.whileRunning fun _ => h.onPort p ((h.ports p).handProbe clk data) (.handProbe _ clk data)
  case requestToSend p clk data =>
    exact h.whileRunning fun _ => h.onPort p ((h.ports p).requestToSend clk data) (.requestToSend _ clk data)
  case startBit p => exact h.whileRunning fun _ => h.onPort p (h.ports p).startBit (.startBit _)
  case attemptOutcome p => exact h.whileRunning fun hlow => h.attemptSlotEnds hlow p
  case noResponse p => exact h.whileRunning fun hlow => h.attemptTimesOut hlow p
  case cutEnd p => exact h.whileRunning fun _ => h.onPort p (h.ports p).cutEnds (.cutEnds _)
  case silenceExpiry p =>
    refine h.whileRunning fun _ => ?_
    split
    · next hs =>
      obtain ⟨-, htimer⟩ := hs
      exact h.goSilent p htimer
    · exact h
  case transmitBegin => exact h.whileRunning fun _ => h.beginTransmission
  case transmitEnd => exact h.endTransmission
  case partTimerTick => exact h.whileRunning fun _ => { h with }
  -- RECALL, whose name Mathlib reserves as a keyword, is the row that is left.
  next value => exact h.onMessage fun _ ht => ht.recallTaken value

/-- A step runs the first command of the queue, or idles. -/
theorem step {t : State} (hc : ClassifierInv s.classifier) (he : step s = .next t) : PortsLegal 16 t := by
  unfold Machine.step at he
  split at he
  · cases he; exact h
  · next rest _ =>
    have hpending : PortsLegal 16 (s.withPending rest) := { h with }
    exact hpending.exec hc he

end

end PortsLegal

/-- Settles O60: the rules together are kept by each shared operation, hence by each row and by each step. -/
theorem portsAndLanesStayLegal : Obligations.PortsAndLanesStayLegal := by
  unfold Obligations.PortsAndLanesStayLegal
  intro s t hclassifier hports hdeferred hlanes hreceiver he
  obtain ⟨hload, hrelays, hreserved, hguard⟩ := hlanes
  obtain ⟨hbody, hmemory⟩ := hreceiver
  have hs : PortsLegal 16 s :=
    ⟨fun p => (portInv_iff _).1 (hports p), hdeferred, hload, hrelays, hreserved, hguard, hbody, hmemory⟩
  have h := hs.step hclassifier he
  exact ⟨fun p => (portInv_iff _).2 (h.ports p), h.deferred, ⟨h.load, h.relays, h.reserved, h.guard⟩, h.receiver,
    h.memory⟩

end Sys2Proof.Machine
end

section
/-! PROOFS. PORT_CONTROL PROBE_NOW and FLUSH_TX, and the rows of the probe and of silence (O49, O56). -/

namespace Sys2Proof.Machine

/-- An admitted PORT_CONTROL, by what its action gives on the state that has heard it (R152). -/
theorem exec_portControl {s t : State} {i : Instr} {sequence action : Byte} {p : PortIx}
    {f : PortIx → State → Executed} {status : Status} {data : List Byte} (h : s.Admits sequence)
    (hrow : exec i s = .next (s.command .portControl sequence (cmdPortControl [indexByte p, action])))
    (hf : controlOf action = some f) (hc : f p s.heard = ⟨t, status, data, none⟩) :
    exec i s = .next (t.replied sequence 0x39 status data) :=
  exec_replied h hrow ((cmdPortControl_eq hf s.heard p).trans hc)

/-! ## PORT_CONTROL PROBE_NOW (R153) -/

section
variable {s : State} {p : PortIx}

theorem controlProbeNow_marks (hp : s.ports[p].presence = .absent) :
    controlProbeNow p s = answerOk (s.onPort p fun pt => { pt with probeDue := true }) [1, 0] := by
  have hpresence : (s.onPort p fun pt => { pt with probeDue := true }).ports[p].presence = .absent :=
    (congrArg Port.presence (s.onPort_self p _)).trans hp
  refine Eq.trans ?_ (answerControl_eq hpresence 0)
  simp only [controlProbeNow, hp]

theorem controlProbeNow_refuses (hp : s.ports[p].presence ≠ .absent) :
    controlProbeNow p s = refuse s .notReady := by
  unfold controlProbeNow
  split
  · next habsent => exact absurd habsent hp
  · rfl

end

/-! ## PORT_CONTROL FLUSH_TX (R120, R126, R153) -/

section
variable {pt : Port}

/-- Without an entry in flight the queue goes, and with it the frame that its head had handed to the line. -/
theorem Port.flushTx_idle (h : pt.attempts = 0) :
    pt.flushTx =
      if pt.queue = [] then pt
      else { pt with
        queue := []
        line := ⟨pt.line.activity, { pt.line.reasons with preempt := false }, none⟩ } := by
  rw [Port.flushTx, if_pos h]
  cases hq : pt.queue with
  | nil => rfl
  | cons e rest => exact congrArg (fun qt : Port => { qt with queue := [] }) pt.withdrawReady_eq

/-- The entry in flight stays, and the line goes on with it. -/
theorem Port.flushTx_inFlight (h : 0 < pt.attempts) : pt.flushTx = { pt with queue := pt.queue.take 1 } := by
  rw [Port.flushTx, if_neg (Nat.ne_of_gt h)]

theorem Port.flushTx_presence (pt : Port) : pt.flushTx.presence = pt.presence := by
  rcases Nat.eq_zero_or_pos pt.attempts with h | h
  · rw [Port.flushTx_idle h]
    split_ifs <;> rfl
  · rw [Port.flushTx_inFlight h]

theorem Port.flushable_idle (h : pt.attempts = 0) : pt.flushable = pt.queue := by
  rw [Port.flushable, if_pos h]

theorem Port.flushable_inFlight (h : 0 < pt.attempts) : pt.flushable = pt.queue.tail := by
  rw [Port.flushable, if_neg (Nat.ne_of_gt h)]

end

/-- FLUSH_TX answers the presence state, which it keeps, and the number of the entries that leave (R153). -/
theorem controlFlushTx_eq {s : State} {p : PortIx} {left : List TxEntry} {f : Port → Port}
    (hleft : s.ports[p].flushable = left) (hf : s.ports[p].flushTx = f s.ports[p]) :
    controlFlushTx p s =
      answerOk { s with
        ports := update s.ports p f
        trunk := s.trunk.resulted p .flushed 0 left } [s.ports[p].presence.code, BitVec.ofNat 8 left.length] := by
  have hflush : s.flushTx p =
      { s with
        ports := update s.ports p f
        trunk := s.trunk.resulted p .flushed 0 left } := by
    rw [s.flushTx_eq, hleft, update_congr s.ports p hf]
  have hpresence : (s.flushTx p).ports[p].presence = s.ports[p].presence := by
    rw [s.flushTx_eq]
    exact (congrArg Port.presence (s.onPort_self p Port.flushTx)).trans s.ports[p].flushTx_presence
  rw [controlFlushTx, answerControl_eq hpresence, hleft, hflush]

/-- Settles O49: each action by what it does to the port, with and without an entry in flight. -/
theorem portsAreProbedAndFlushed : Obligations.PortsAreProbedAndFlushed := by
  unfold Obligations.PortsAreProbedAndFlushed
  intro s sequence p h _
  refine ⟨fun hp => exec_portControl h rfl rfl (controlProbeNow_marks hp),
    fun hp => exec_portControl h rfl rfl (controlProbeNow_refuses hp), fun hidle => ?_, fun hflying => ?_⟩
  · exact exec_portControl h rfl rfl (controlFlushTx_eq (Port.flushable_idle hidle) (Port.flushTx_idle hidle))
  · rw [← List.length_tail]
    exact exec_portControl h rfl rfl
      (controlFlushTx_eq (Port.flushable_inFlight hflying) (Port.flushTx_inFlight hflying))

/-! ## The probe and the timers of a port (R134, R136, R137) -/

section
variable {pt : Port}

theorem Port.probeTimerExpires_running (h : pt.probeTimer ≠ none) :
    pt.probeTimerExpires = { pt with probeDue := true, probeTimer := some 250 } := by
  unfold Port.probeTimerExpires
  split
  · next hstopped => exact absurd hstopped h
  · rfl

theorem Port.probeTimerExpires_stopped (h : pt.probeTimer = none) : pt.probeTimerExpires = pt := by
  rw [Port.probeTimerExpires, h]

/-- The probe is handed to a QUIET line with both wires high, and the mark goes (R134). -/
theorem Port.handProbe_hands (hp : pt.presence = .absent) (hdue : pt.probeDue = true) (hq : pt.line.state = .quiet)
    (hr : pt.line.ready = none) :
    pt.handProbe true true = { pt with probeDue := false, line := { pt.line with ready := some ⟨true, 7, 0⟩ } } :=
  if_pos ⟨hp, hdue, hq, hr, rfl, rfl⟩

theorem Port.handProbe_waits {clkHigh dataHigh : Bool}
    (h : pt.probeDue = false ∨ pt.line.state ≠ .quiet ∨ clkHigh = false ∨ dataHigh = false) :
    pt.handProbe clkHigh dataHigh = pt := by
  refine if_neg ?_
  rintro ⟨-, hdue, hq, -, hclk, hdata⟩
  rcases h with h | h | h | h
  · simp [h] at hdue
  · exact h hq
  · simp [h] at hclk
  · simp [h] at hdata

end

/-- Settles O56: each row by the lemma of its operation, where its condition holds and where it does not. -/
theorem portsProbeAndGoSilent : Obligations.PortsProbeAndGoSilent := by
  unfold Obligations.PortsProbeAndGoSilent
  intro s p hlow
  refine ⟨fun h => ?_, fun h => ?_, fun hp hdue hq hr => ?_, fun clk data h => ?_, fun hp hs => ?_, fun hs => ?_⟩
  · exact exec_wires hlow rfl (Port.probeTimerExpires_running h)
  · exact exec_wires_idle hlow rfl (Port.probeTimerExpires_stopped h)
  · exact exec_wires hlow rfl (Port.handProbe_hands hp hdue hq hr)
  · exact exec_wires_idle hlow rfl (Port.handProbe_waits h)
  · exact exec_running hlow rfl ((if_pos ⟨hp, Option.isSome_iff_ne_none.2 hs⟩).trans (s.goSilent_eq p))
  · exact exec_running hlow rfl (if_neg fun ⟨_, hrunning⟩ => Option.isSome_iff_ne_none.1 hrunning hs)

end Sys2Proof.Machine
end

section
/-! PROOFS. The check of a message: one bit into its register, its own two bytes, and one wrong bit (O7). -/

namespace Sys2Proof.Machine

/-! ## One bit into the register (R159) -/

/-- Fed with its own top bit, the register shifts. -/
theorem crcBit_msb (register : Word) : crcBit register register.msb = register <<< 1 := if_pos rfl

/-- The lowest bit of the generator tells whether the bit fed in differed from the bit shifted out. -/
theorem crcBit_lowest (register : Word) (bit : Bool) : (crcBit register bit)[0] = (register.msb != bit) := by
  unfold crcBit
  split
  · next h => simp [h]
  · next h => simpa using h

/-- Two registers with the same top bit differ after a shift where they differed before it. -/
theorem shiftLeft_one_cancel {x y : Word} (hshift : x <<< 1 = y <<< 1) (hmsb : x.msb = y.msb) : x = y := by
  refine BitVec.eq_of_getLsbD_eq fun i hi => ?_
  by_cases htop : i = 15
  · subst htop; exact hmsb
  · have hbit := congrArg (fun w : Word => w.getLsbD (i + 1)) hshift
    simpa only [BitVec.getLsbD_shiftLeft, show i + 1 < 16 by omega, decide_true, Nat.not_lt_zero, Nat.add_sub_cancel,
      show ¬ i + 1 < 1 by omega, decide_false, Bool.not_false, Bool.true_and] using hbit

/-- A bit fed into two different registers leaves them different. -/
theorem crcBit_injective (bit : Bool) : Function.Injective fun register => crcBit register bit := by
  intro x y (h : crcBit x bit = crcBit y bit)
  have hmsb : x.msb = y.msb := by
    have hlowest := congrArg (fun w : Word => w[0]) h
    simpa [crcBit_lowest] using hlowest
  refine shiftLeft_one_cancel ?_ hmsb
  unfold crcBit at h
  rw [hmsb] at h
  split at h
  · exact h
  · exact BitVec.xor_left_inj _ |>.1 h

/-- Two different bits leave one register in two states. -/
theorem crcBit_ne (register : Word) {a b : Bool} (h : a ≠ b) : crcBit register a ≠ crcBit register b := by
  intro heq
  have hlowest := congrArg (fun w : Word => w[0]) heq
  exact h (by simpa [crcBit_lowest] using hlowest)

/-! ## Runs of bits and of bytes -/

/-- What no single item merges, no list of items merges. -/
theorem foldl_injective {α β : Type} {f : α → β → α} (hf : ∀ b, Function.Injective fun a => f a b) (l : List β) :
    Function.Injective fun a => l.foldl f a := by
  induction l with
  | nil => exact Function.injective_id
  | cons b l ih => exact ih.comp (hf b)

theorem crcByte_injective (b : Byte) : Function.Injective fun register => crcByte register b :=
  foldl_injective (fun i => crcBit_injective (b.getLsbD i)) _

/-- Two bytes that differ in one of the bits fed in leave one register in two states. -/
theorem foldl_crcBit_flip {a b : Byte} {i : Nat} (hflip : a.getLsbD i ≠ b.getLsbD i)
    (hsame : ∀ j, j ≠ i → a.getLsbD j = b.getLsbD j) {l : List Nat} (hnodup : l.Nodup) (hi : i ∈ l) (register : Word) :
    l.foldl (fun r j => crcBit r (a.getLsbD j)) register ≠ l.foldl (fun r j => crcBit r (b.getLsbD j)) register := by
  induction l generalizing register with
  | nil => cases hi
  | cons j l ih =>
    obtain ⟨hj, hnodup⟩ := List.nodup_cons.1 hnodup
    by_cases hji : j = i
    · subst hji
      have hrest : ∀ r : Word, l.foldl (fun r j => crcBit r (a.getLsbD j)) r =
          l.foldl (fun r j => crcBit r (b.getLsbD j)) r := fun r =>
        List.foldl_ext _ _ r fun _ k hk => by rw [hsame k fun e => hj (e ▸ hk)]
      rw [List.foldl_cons, List.foldl_cons, hrest]
      exact (foldl_injective (fun k => crcBit_injective (b.getLsbD k)) l).ne (crcBit_ne register hflip)
    · have hmem : i ∈ l := (List.mem_cons.1 hi).resolve_left (Ne.symm hji)
      simp only [List.foldl_cons, hsame j hji]
      exact ih hnodup hmem _

theorem crcByte_flip (register : Word) (b : Byte) {i : Nat} (hi : i < 8) :
    crcByte register (b ^^^ BitVec.twoPow 8 i) ≠ crcByte register b := by
  refine foldl_crcBit_flip (i := i) ?_ (fun j hj => ?_) (by decide) ?_ register
  · simp [hi]
  · simp [BitVec.getLsbD_xor, BitVec.getLsbD_twoPow, Ne.symm hj]
  · exact List.mem_reverse.2 (List.mem_range.2 hi)

/-! ## The register's own bytes -/

/-- After `n` bits, the next of the register's own bits shifts it once more. -/
theorem crcBit_own (register : Word) {n : Nat} (hn : n < 16) :
    crcBit (register <<< n) (register.getLsbD (15 - n)) = register <<< (n + 1) := by
  have htop : register.getLsbD (15 - n) = (register <<< n).msb := by
    rw [BitVec.msb_eq_getLsbD_last, BitVec.getLsbD_shiftLeft]
    simp [show ¬ 15 < n by omega]
  rw [htop, crcBit_msb, BitVec.shiftLeft_add]

/-- The last `m` bits of a byte that holds the register's next eight bits. -/
theorem foldl_crcBit_own (register : Word) (b : Byte) {n : Nat} (hn : n ≤ 8)
    (hb : ∀ i, i < 8 → b.getLsbD i = register.getLsbD (8 + i - n)) {m : Nat} (hm : m ≤ 8) :
    (List.range m).reverse.foldl (fun r i => crcBit r (b.getLsbD i)) (register <<< (n + 8 - m)) =
      register <<< (n + 8) := by
  induction m with
  | zero => rfl
  | succ m ih =>
    have hbit : crcBit (register <<< (n + 8 - (m + 1))) (b.getLsbD m) = register <<< (n + 8 - m) := by
      have hown := crcBit_own register (n := n + 8 - (m + 1)) (by omega)
      rwa [show 15 - (n + 8 - (m + 1)) = 8 + m - n by omega, ← hb m (by omega),
        show n + 8 - (m + 1) + 1 = n + 8 - m by omega] at hown
    rw [List.range_succ, List.reverse_concat, List.foldl_cons, hbit, ih (by omega)]

/-- The register's own two bytes shift all of it out. -/
theorem crcByte_own (register : Word) : crcByte (crcByte register (hiByte register)) (loByte register) = 0 := by
  have hhi : crcByte register (hiByte register) = register <<< 8 := by
    have hown := foldl_crcBit_own register (hiByte register) (n := 0) (by omega)
      (fun i hi => by simp [hiByte, hi]) (m := 8) (by omega)
    rwa [BitVec.shiftLeft_zero] at hown
  have hlo : crcByte (register <<< 8) (loByte register) = register <<< 16 :=
    foldl_crcBit_own register (loByte register) (n := 8) (by omega)
      (fun i hi => by simp [loByte, hi]) (m := 8) (by omega)
  rw [hhi, hlo]
  exact BitVec.shiftLeft_eq_zero (by omega)

/-- Settles O7: a register shifts its own check out, and neither a bit nor a byte merges two registers. -/
theorem checkSeesOneWrongBit : Obligations.CheckSeesOneWrongBit := by
  unfold Obligations.CheckSeesOneWrongBit
  refine ⟨fun bytes => ?_, fun before after b i hi => ?_⟩
  · rw [crc, List.foldl_append]
    exact crcByte_own (crc bytes)
  · simp only [crc, List.foldl_append, List.foldl_cons]
    exact (foldl_injective crcByte_injective after).ne (crcByte_flip _ b hi)

end Sys2Proof.Machine
end

section
/-! PROOFS. The rows that are messages and the messages they stand for, both ways (O4, O5). -/

namespace Sys2Proof.Machine

/-- The row is well-formed, and it stands for this message. -/
def StandsFor (i : Instr) (m : TrunkMessage) : Prop :=
  i.wellFormed = true ∧ encodeMessage m.sequence i = some m

/-! ## Messages that fail the form check (R164) -/

/-- A message that fails the form check is its MALFORMED row. -/
theorem decodeMessage_malformed {m : TrunkMessage} (h : formOk m.type m.payload.length = false) :
    decodeMessage m = .malformed m.type m.sequence m.payload := by
  obtain ⟨type, sequence, payload⟩ := m
  simp only [decodeMessage]
  split_ifs with htype htype htype htype hform
  iterate 4
    · subst htype
      split
      · cases h
      · rfl
  · obtain ⟨rfl, hfits⟩ := hform
    cases payload with
    | nil => rfl
    | cons code arguments => simp_all [formOk]
  · rfl

/-- The forms of Table 10-1: one payload byte in the handshake, four in a SEND, up to 40 in a COMMAND. -/
theorem formOk_cases {type : Byte} {payload : List Byte} (h : formOk type payload.length = true) :
    (∃ number, type = takeType ∧ payload = [number]) ∨ (∃ value, type = doneType ∧ payload = [value]) ∨
      (∃ value, type = recallType ∧ payload = [value]) ∨
      (∃ port tag data confirm, type = sendType ∧ payload = [port, tag, data, confirm]) ∨ type = commandType := by
  simp only [formOk, Bool.or_eq_true, Bool.and_eq_true, beq_iff_eq, decide_eq_true_eq] at h
  rcases h with (((⟨htype, hone⟩ | ⟨htype, hone⟩) | ⟨htype, hone⟩) | ⟨htype, hfour⟩) | ⟨⟨htype, -⟩, -⟩
  · obtain ⟨number, rfl⟩ := List.length_eq_one_iff.1 hone
    exact .inl ⟨number, htype, rfl⟩
  · obtain ⟨value, rfl⟩ := List.length_eq_one_iff.1 hone
    exact .inr (.inl ⟨value, htype, rfl⟩)
  · obtain ⟨value, rfl⟩ := List.length_eq_one_iff.1 hone
    exact .inr (.inr (.inl ⟨value, htype, rfl⟩))
  · obtain ⟨port, tag, data, confirm, rfl⟩ := List.length_eq_four.1 hfour
    exact .inr (.inr (.inr (.inl ⟨port, tag, data, confirm, htype, rfl⟩)))
  · exact .inr (.inr (.inr (.inr htype)))

theorem malformed_standsFor {m : TrunkMessage} (hfits : m.payload.length ≤ 40)
    (h : formOk m.type m.payload.length = false) : StandsFor (.malformed m.type m.sequence m.payload) m :=
  ⟨by simp [Instr.wellFormed, hfits, h], rfl⟩

/-! ## COMMAND messages (R185, R199) -/

/-- A command that a code names has that code. -/
theorem code_of_commandOf {code : Byte} {c : Command} (h : commandOf code = some c) : c.code = code := by
  simpa using List.find?_some h

theorem decodeMessage_command (sequence : Byte) {payload : List Byte} (h : payload.length ≤ 40) :
    decodeMessage ⟨commandType, sequence, payload⟩ = decodeCommand sequence payload := by
  simp [decodeMessage, takeType, doneType, recallType, sendType, commandType, h]

theorem decodeCommand_unnamed {code : Byte} (h : commandOf code = none) (sequence : Byte) (arguments : List Byte) :
    decodeCommand sequence (code :: arguments) = .commandUnknown sequence code arguments := by
  simp only [decodeCommand, h]

theorem decodeCommand_code (c : Command) (sequence : Byte) (arguments : List Byte) :
    decodeCommand sequence (c.code :: arguments) = commandRow c sequence arguments := by
  simp only [decodeCommand, commandOf_code]

/-- A COMMAND of a command is a row of its own, which stands for it, or COMMAND_UNKNOWN, where Table 10-7 does not give
its scope, operation or action. -/
theorem commandRow_named_or_unknown (c : Command) (sequence : Byte) {arguments : List Byte}
    (h : arguments.length ≤ 39) :
    (namedByARow c.code arguments = true ∧
        StandsFor (commandRow c sequence arguments) (commandMessage c sequence arguments)) ∨
      (namedByARow c.code arguments = false ∧
        commandRow c sequence arguments = .commandUnknown sequence c.code arguments) := by
  unfold namedByARow
  rw [commandOf_code]
  cases c
  case reset =>
    cases arguments with
    | nil => exact .inr ⟨rfl, rfl⟩
    | cons scope rest =>
      have hrest : rest.length ≤ 38 := Nat.le_of_succ_le_succ h
      simp only [commandRow]
      split_ifs with harbiter htraffic hconfig
      iterate 3
        · subst scope; exact .inl ⟨rfl, decide_eq_true hrest, rfl⟩
      · exact .inr ⟨by simp [harbiter, htraffic, hconfig], rfl⟩
  case setMasks =>
    cases arguments with
    | nil => exact .inr ⟨rfl, rfl⟩
    | cons operation rest =>
      have hrest : rest.length ≤ 38 := Nat.le_of_succ_le_succ h
      simp only [commandRow]
      split_ifs with hassign hmask hunmask
      iterate 3
        · subst operation; exact .inl ⟨rfl, decide_eq_true hrest, rfl⟩
      · exact .inr ⟨by simp [hassign, hmask, hunmask], rfl⟩
  case portControl =>
    match arguments with
    | [] => exact .inr ⟨rfl, rfl⟩
    | [_] => exact .inr ⟨rfl, rfl⟩
    | port :: action :: rest =>
      have hrest : rest.length ≤ 37 := Nat.le_of_succ_le_succ (Nat.le_of_succ_le_succ h)
      simp only [commandRow]
      split_ifs with henable hdisable hprobe hflush
      iterate 4
        · subst action; exact .inl ⟨rfl, decide_eq_true hrest, rfl⟩
      · exact .inr ⟨by simp [henable, hdisable, hprobe, hflush], rfl⟩
  all_goals exact .inl ⟨rfl, decide_eq_true h, rfl⟩

/-- A COMMAND that no other row names reads back as COMMAND_UNKNOWN. -/
theorem decodeCommand_unknown (sequence : Byte) {code : Byte} {arguments : List Byte}
    (hfits : arguments.length ≤ 39) (h : namedByARow code arguments = false) :
    decodeCommand sequence (code :: arguments) = .commandUnknown sequence code arguments := by
  cases hc : commandOf code with
  | none => exact decodeCommand_unnamed hc sequence arguments
  | some c =>
    obtain rfl := code_of_commandOf hc
    rw [decodeCommand_code]
    rcases commandRow_named_or_unknown c sequence hfits with ⟨hnamed, -⟩ | ⟨-, hunknown⟩
    · exact absurd (hnamed.symm.trans h) (by decide)
    · exact hunknown

theorem commandUnknown_standsFor (sequence : Byte) {code : Byte} {arguments : List Byte}
    (hfits : arguments.length ≤ 39) (h : namedByARow code arguments = false) :
    StandsFor (.commandUnknown sequence code arguments) ⟨commandType, sequence, code :: arguments⟩ :=
  ⟨by simp [Instr.wellFormed, hfits, h], rfl⟩

/-- The row that a COMMAND payload reads as stands for it. -/
theorem decodeCommand_standsFor (sequence : Byte) {payload : List Byte} (h : payload.length ≤ 40) :
    StandsFor (decodeCommand sequence payload) ⟨commandType, sequence, payload⟩ := by
  cases payload with
  | nil => exact malformed_standsFor (m := ⟨commandType, sequence, []⟩) h rfl
  | cons code arguments =>
    have hfits : arguments.length ≤ 39 := Nat.le_of_succ_le_succ h
    cases hc : commandOf code with
    | none =>
      rw [decodeCommand_unnamed hc]
      exact commandUnknown_standsFor sequence hfits (by unfold namedByARow; rw [hc])
    | some c =>
      obtain rfl := code_of_commandOf hc
      rw [decodeCommand_code]
      rcases commandRow_named_or_unknown c sequence hfits with ⟨-, hstands⟩ | ⟨hnamed, hunknown⟩
      · exact hstands
      · rw [hunknown]
        exact commandUnknown_standsFor sequence hfits hnamed

/-- The message of a command reads back as the command's row. -/
theorem decodeMessage_commandMessage (c : Command) (sequence : Byte) {arguments : List Byte}
    (h : arguments.length + 1 ≤ 40) :
    (commandMessage c sequence arguments).payload.length ≤ 40 ∧
      decodeMessage (commandMessage c sequence arguments) = commandRow c sequence arguments := by
  have hpayload : (c.code :: arguments).length ≤ 40 := h
  exact ⟨hpayload, (decodeMessage_command sequence hpayload).trans (decodeCommand_code c sequence arguments)⟩

/-! ## Both ways -/

theorem decodeMessage_done (sequence value : Byte) :
    decodeMessage ⟨doneType, sequence, [value]⟩ = if value = currentCode then .doneCurrent else .done value := rfl

/-- Settles O4, row by row: a COMMAND row by its command; MALFORMED and COMMAND_UNKNOWN because their messages are no
other row's. -/
theorem rowsSurviveTheWire : Obligations.RowsSurviveTheWire := by
  unfold Obligations.RowsSurviveTheWire
  intro i spare m hwell hmessage
  cases i <;> simp only [encodeMessage, Option.some.injEq, reduceCtorEq] at hmessage <;> subst hmessage
  case malformed type sequence payload =>
    simp only [Instr.wellFormed, Bool.and_eq_true, decide_eq_true_eq, Bool.not_eq_true'] at hwell
    obtain ⟨hfits, hform⟩ := hwell
    exact ⟨hfits, decodeMessage_malformed hform⟩
  case commandUnknown sequence code arguments =>
    simp only [Instr.wellFormed, Bool.and_eq_true, decide_eq_true_eq, Bool.not_eq_true'] at hwell
    obtain ⟨hfits, hunnamed⟩ := hwell
    have hpayload : (code :: arguments).length ≤ 40 := Nat.add_le_add_right hfits 1
    refine ⟨hpayload, ?_⟩
    rw [decodeMessage_command sequence hpayload, decodeCommand_unknown sequence hfits hunnamed]
  case done value =>
    have hvalue : value ≠ currentCode := by simpa [Instr.wellFormed] using hwell
    exact ⟨by simp, (decodeMessage_done spare value).trans (if_neg hvalue)⟩
  case take | doneCurrent | send => exact ⟨by simp, rfl⟩
  -- RECALL, whose name `case` cannot spell, is the first row that is left.
  next value => exact ⟨by simp, rfl⟩
  case resetArbiter | resetTraffic | resetConfig | setMasksAssign | setMasksMask | setMasksUnmask =>
    exact decodeMessage_commandMessage _ _ (Nat.add_le_add_right (of_decide_eq_true hwell) 2)
  case portControlEnable | portControlDisable | portControlProbeNow | portControlFlushTx =>
    exact decodeMessage_commandMessage _ _ (Nat.add_le_add_right (of_decide_eq_true hwell) 3)
  all_goals exact decodeMessage_commandMessage _ _ (Nat.add_le_add_right (of_decide_eq_true hwell) 1)

/-- Settles O5: a message fails the form check and is MALFORMED, or its payload has the form of its Type. -/
theorem messagesAreRows : Obligations.MessagesAreRows := by
  unfold Obligations.MessagesAreRows
  rintro ⟨type, sequence, payload⟩ hfits
  show StandsFor (decodeMessage ⟨type, sequence, payload⟩) ⟨type, sequence, payload⟩
  cases hform : formOk type payload.length with
  | false =>
    rw [decodeMessage_malformed hform]
    exact malformed_standsFor hfits hform
  | true =>
    rcases formOk_cases hform with ⟨number, rfl, rfl⟩ | ⟨value, rfl, rfl⟩ | ⟨value, rfl, rfl⟩ |
      ⟨port, tag, data, confirm, rfl, rfl⟩ | rfl
    · exact ⟨rfl, rfl⟩
    · rw [decodeMessage_done]
      split_ifs with hvalue
      · subst hvalue; exact ⟨rfl, rfl⟩
      · exact ⟨by simpa [Instr.wellFormed] using hvalue, rfl⟩
    · exact ⟨rfl, rfl⟩
    · exact ⟨rfl, rfl⟩
    · rw [decodeMessage_command sequence hfits]
      exact decodeCommand_standsFor sequence hfits

end Sys2Proof.Machine
end

section
/-! PROOFS. The characters on TRX, the receiver's judgement, and a message character by character (O6, O8, O9). -/

namespace Sys2Proof.Machine

/-! ## The receiver, character by character (R157, R160, R161, R163, R165) -/

section
variable {s : State} {v : Byte} {bad : Bool}

/-- The state with the receiver elsewhere, and waiting for mark or not. -/
def State.receiving (s : State) (r : Receiver) (waits : Bool) : State :=
  { s with trunk := { s.trunk with receiver := r, awaitsMark := waits } }

theorem State.receiveCharacter_inBreak (h : s.trunk.receiver = .inBreak) : s.receiveCharacter v bad = s := if_pos h

/-- In HUNT the marker opens a message, and anything else leaves its stop bit behind (R160). -/
theorem State.receiveCharacter_hunt (h : s.trunk.receiver = .hunt) :
    s.receiveCharacter v bad =
      if v = marker ∧ bad = false then s.receiving (.body [] false) bad else s.sampleStop bad := by
  have hreceiver : (s.sampleStop bad).trunk.receiver = .hunt := h
  unfold State.receiveCharacter State.takeCharacter
  rw [if_neg (by simp [h]), hreceiver]
  rfl

theorem State.receiveCharacter_body {collected : List Byte} {damaged : Bool}
    (h : s.trunk.receiver = .body collected damaged) :
    s.receiveCharacter v bad = (s.sampleStop bad).collectByte collected (damaged || bad) v := by
  have hreceiver : (s.sampleStop bad).trunk.receiver = .body collected damaged := h
  unfold State.receiveCharacter State.takeCharacter
  rw [if_neg (by simp [h]), hreceiver]

/-- A Length that is in range opens the body of a message (R161). -/
theorem State.receiveCharacter_length {damaged : Bool} (h : s.trunk.receiver = .body [] damaged)
    (hlow : 2 ≤ v.toNat) (hhigh : v.toNat ≤ 42) :
    s.receiveCharacter v bad = s.receiving (.body [v] (damaged || bad)) bad := by
  rw [State.receiveCharacter_body h]
  exact if_neg (by omega)

theorem State.receiveCharacter_length_outOfRange {damaged : Bool} (h : s.trunk.receiver = .body [] damaged)
    (hv : v.toNat < 2 ∨ 42 < v.toNat) : s.receiveCharacter v bad = (s.sampleStop bad).countLengthError := by
  rw [State.receiveCharacter_body h]
  exact if_pos hv

/-- A message whose characters are still to come collects them (R161). -/
theorem State.receiveCharacter_collects {length : Byte} {rest : List Byte} {damaged : Bool}
    (h : s.trunk.receiver = .body (length :: rest) damaged) (hmore : rest.length + 2 < length.toNat + 3) :
    s.receiveCharacter v bad = s.receiving (.body (length :: rest ++ [v]) (damaged || bad)) bad := by
  rw [State.receiveCharacter_body h]
  exact if_pos hmore

/-- At the second Check byte a message is judged (R163). -/
theorem State.receiveCharacter_judges {length : Byte} {rest : List Byte} {damaged : Bool}
    (h : s.trunk.receiver = .body (length :: rest) damaged) (hend : length.toNat + 3 ≤ rest.length + 2) :
    s.receiveCharacter v bad = (s.sampleStop bad).judge (length :: rest ++ [v]) (damaged || bad) := by
  rw [State.receiveCharacter_body h]
  exact if_neg (Nat.not_lt.2 hend)

end

/-! ## The judgement (R163, R164) -/

theorem word_wordOf (hi lo : Byte) : word (wordOf hi lo) = [hi, lo] := by
  have hhi : hiByte (wordOf hi lo) = hi := BitVec.extractLsb'_append_eq_left
  have hlo : loByte (wordOf hi lo) = lo := BitVec.extractLsb'_append_eq_right
  rw [word, hhi, hlo]

/-- The two check bytes are compared as one word, high byte first (R159, R194). -/
theorem checkMatches_iff (body : List Byte) (hi lo : Byte) :
    checkMatches (body ++ [hi, lo]) = true ↔ crc body = wordOf hi lo := by
  have hsplit : (body ++ [hi, lo]).length - 2 = body.length := by simp
  unfold checkMatches
  rw [hsplit, List.take_left, List.drop_left, beq_iff_eq, ← word_wordOf]
  refine ⟨fun h => ?_, congrArg word⟩
  obtain ⟨hhi, htail⟩ := List.cons.inj h
  obtain ⟨hlo, -⟩ := List.cons.inj htail
  rw [← wordOf_bytes (crc body), hhi, hlo, wordOf_bytes]

theorem State.judge_discards (s : State) {bytes : List Byte} {damaged : Bool}
    (h : damaged = true ∨ checkMatches bytes = false) : s.judge bytes damaged = s.countCheckError := by
  unfold State.judge
  rcases h with rfl | h
  · rfl
  · simp [h]

/-- A message that is undamaged and has its own check is handed to its owner. -/
theorem State.judge_valid (s : State) (m : TrunkMessage) :
    s.judge (m.body ++ word (crc m.body)) false = s.onMessage fun t => t.dispatch m := by
  have hmatches : checkMatches (m.body ++ word (crc m.body)) = true :=
    (checkMatches_iff _ _ _).2 (wordOf_bytes _).symm
  unfold State.judge
  rw [if_neg (by decide), if_pos hmatches]
  have hpayload : (m.payload ++ word (crc m.body)).take ((m.payload ++ word (crc m.body)).length - 2) = m.payload := by
    rw [List.length_append, show m.payload.length + (word (crc m.body)).length - 2 = m.payload.length from rfl,
      List.take_left]
  exact congrArg (fun payload => s.onMessage fun t => t.dispatch ⟨m.type, m.sequence, payload⟩) hpayload

theorem exec_characterComplete {s : State} (hlow : s.rstnLow = false) (v : Byte) (bad : Bool) :
    exec (.characterComplete v bad) s = .next (s.receiveCharacter v bad) :=
  exec_running hlow rfl rfl

/-- Settles O8, receiver state by receiver state. -/
theorem receiverCollects : Obligations.ReceiverCollects := by
  unfold Obligations.ReceiverCollects
  intro s v bad hlow
  rw [exec_characterComplete hlow]
  refine ⟨fun h => congrArg _ ?_, fun h => congrArg _ (State.receiveCharacter_inBreak h),
    fun damaged h => congrArg _ ?_, fun length rest damaged h =>
      ⟨fun hmore => congrArg _ (State.receiveCharacter_collects h hmore),
        fun body hi lo hbytes hend hwrong => congrArg _ ?_⟩⟩
  · rw [State.receiveCharacter_hunt h]
    show (if v = 0xC3 ∧ bad = false then _ else _) = _
    split <;> rfl
  · split
    · next hv => exact State.receiveCharacter_length_outOfRange h hv
    · next hv => exact State.receiveCharacter_length h (by omega) (by omega)
  · rw [State.receiveCharacter_judges h hend, State.judge_discards]
    · rfl
    · rw [hbytes, Bool.or_eq_true, ← Bool.not_eq_true, checkMatches_iff, or_assoc]
      exact hwrong

/-- Settles O9: each row counts one, and waits for RSTN and the receiver's state. -/
theorem discardedMessagesAreCounted : Obligations.DiscardedMessagesAreCounted := by
  unfold Obligations.DiscardedMessagesAreCounted
  refine fun s => ⟨fun h => ?_, fun h => ?_, fun collected damaged hlow h => ?_, fun h => ?_, fun h => ⟨?_, ?_⟩⟩
  · exact congrArg Host.Outcome.next (if_pos (s.receives_iff.2 h))
  · exact congrArg Host.Outcome.next (if_pos (s.receives_iff.2 h))
  · exact exec_running hlow rfl (by rw [h]; rfl)
  · refine congrArg Host.Outcome.next ?_
    unfold State.whileRunning
    cases hr : s.trunk.receiver with
    | body collected damaged => exact absurd hr (h collected damaged)
    | hunt | inBreak => simp only [hr, ite_self]
  · exact congrArg Host.Outcome.next (if_neg (mt s.receives_iff.1 h))
  · exact congrArg Host.Outcome.next (if_neg (mt s.receives_iff.1 h))

/-! ## A message character by character (R157, R159 to R164, R194) -/

theorem State.dispatch_command (s : State) (sequence : Byte) {payload : List Byte} (h : payload.length ≤ 40) :
    s.dispatch ⟨commandType, sequence, payload⟩ = s.handCommand ⟨commandType, sequence, payload⟩ := by
  simp [State.dispatch, takeType, doneType, recallType, sendType, commandType, h]

/-- The row that a COMMAND payload reads as is what the request unit is handed (R185). -/
theorem exec_decodeCommand (sequence : Byte) (payload : List Byte) (s : State) :
    exec (decodeCommand sequence payload) s =
      .next (s.onMessage fun t => t.handCommand ⟨commandType, sequence, payload⟩) := by
  cases payload with
  | nil => rfl
  | cons code arguments =>
    cases hc : commandOf code with
    | none => rw [decodeCommand_unnamed hc]; rfl
    | some c =>
      obtain rfl := code_of_commandOf hc
      rw [decodeCommand_code, exec_commandRow]
      have hany : cmdAny c.code arguments = runCommand c arguments := funext (cmdAny_code c arguments)
      simp only [State.handCommand, hany]
      rfl

/-- The row that a message reads as hands it to the owner that the form check chooses (R164). -/
theorem exec_decodeMessage {m : TrunkMessage} (hfits : m.payload.length ≤ 40) (s : State) :
    exec (decodeMessage m) s = .next (s.onMessage fun t => t.dispatch m) := by
  obtain ⟨type, sequence, payload⟩ := m
  cases hform : formOk type payload.length with
  | false => rw [decodeMessage_malformed hform]; rfl
  | true =>
    rcases formOk_cases hform with ⟨number, rfl, rfl⟩ | ⟨value, rfl, rfl⟩ | ⟨value, rfl, rfl⟩ |
      ⟨port, tag, data, confirm, rfl, rfl⟩ | rfl
    · rfl
    · rw [decodeMessage_done]
      split_ifs with hvalue
      · subst hvalue; rfl
      · rfl
    · rfl
    · rfl
    · rw [decodeMessage_command sequence hfits, exec_decodeCommand sequence payload s]
      simp only [State.dispatch_command _ sequence hfits]

/-- A character without a framing error, where the receiver waits for no mark. -/
theorem runAll_arriving_cons {s t : State} {c : Byte} (h : s.receiveCharacter c false = t) (hlow : s.rstnLow = false)
    (rest : List Byte) : runAll (arriving (c :: rest)) s = runAll (arriving rest) t :=
  runAll_cons ((exec_characterComplete hlow c false).trans (congrArg _ h)) _

/-- Characters of a body that is not at its end join it. -/
theorem runAll_arriving_body {s : State} (hlow : s.rstnLow = false) (length : Byte) (more rest : List Byte)
    (hmore : rest.length + more.length + 1 < length.toNat + 3) :
    runAll (arriving more) (s.receiving (.body (length :: rest) false) false) =
      .next (s.receiving (.body (length :: rest ++ more) false) false) := by
  induction more generalizing rest with
  | nil => rw [List.append_nil]; rfl
  | cons c more ih =>
    rw [List.length_cons] at hmore
    have hroom : rest.length + 2 < length.toNat + 3 := by omega
    have hrest := ih (rest ++ [c]) (by rw [List.length_append, List.length_singleton]; omega)
    rw [List.cons_append, List.append_assoc] at hrest
    have hjoins : (s.receiving (.body (length :: rest) false) false).receiveCharacter c false =
        s.receiving (.body (length :: (rest ++ [c])) false) false :=
      State.receiveCharacter_collects (damaged := false) rfl hroom
    exact (runAll_arriving_cons hjoins hlow more).trans hrest

theorem TrunkMessage.length_toNat {m : TrunkMessage} (h : m.payload.length ≤ 40) :
    m.length.toNat = m.payload.length + 2 := by
  simp only [TrunkMessage.length, number8, BitVec.toNat_ofNat]
  omega

/-- A message is its marker, its Length, the characters up to the first Check byte, and the second one. -/
theorem TrunkMessage.characters_eq (m : TrunkMessage) :
    m.characters = marker :: m.length ::
      ((m.type :: m.sequence :: m.payload ++ [hiByte (crc m.body)]) ++ [loByte (crc m.body)]) := by
  simp [TrunkMessage.characters, TrunkMessage.body, word]

/-- The end of a message is handed over alike wherever the receiver has come to (R163). -/
theorem State.onMessage_receiving {s : State} (hlow : s.rstnLow = false) (hhunt : s.trunk.receiver = .hunt)
    (collected : List Byte) (damaged waits : Bool) (owner : State → State) :
    (s.receiving (.body collected damaged) waits).onMessage owner = s.onMessage owner := by
  have hhears : (s.receiving (.body collected damaged) waits).Hears := ⟨hlow, Receiver.noConfusion⟩
  rw [State.onMessage_heard _ hhears, s.onMessage_heard ⟨hlow, by simp [hhunt]⟩]
  rfl

/-- The second Check byte of a message has it handed to its owner. -/
theorem State.receiveCharacter_lastCheck {s : State} (hlow : s.rstnLow = false) (hhunt : s.trunk.receiver = .hunt)
    {m : TrunkMessage} (hfits : m.payload.length ≤ 40) :
    (s.receiving (.body (m.body ++ [hiByte (crc m.body)]) false) false).receiveCharacter (loByte (crc m.body)) false =
      s.onMessage fun t => t.dispatch m := by
  have hend : m.length.toNat + 3 ≤ (m.type :: m.sequence :: m.payload ++ [hiByte (crc m.body)]).length + 2 := by
    rw [TrunkMessage.length_toNat hfits]
    simp
  have hbytes : m.body ++ [hiByte (crc m.body)] ++ [loByte (crc m.body)] = m.body ++ word (crc m.body) :=
    List.append_assoc _ _ _
  refine (State.receiveCharacter_judges rfl hend).trans ?_
  rw [← s.onMessage_receiving hlow hhunt (m.body ++ [hiByte (crc m.body)]) false false, ← State.judge_valid, ← hbytes]
  rfl

/-- The marker and the Length open a message, all but the last of its other characters are collected, and the last one
has it judged. -/
theorem runAll_arriving_characters {s : State} (hlow : s.rstnLow = false) (hhunt : s.trunk.receiver = .hunt)
    {m : TrunkMessage} (hfits : m.payload.length ≤ 40) :
    runAll (arriving m.characters) s = .next (s.onMessage fun t => t.dispatch m) := by
  have hlength := TrunkMessage.length_toNat hfits
  have hleast : 2 ≤ m.length.toNat := by omega
  have hmost : m.length.toNat ≤ 42 := by omega
  have hmarker : s.receiveCharacter marker false = s.receiving (.body [] false) false :=
    (State.receiveCharacter_hunt hhunt).trans (if_pos ⟨rfl, rfl⟩)
  have hopen : (s.receiving (.body [] false) false).receiveCharacter m.length false =
      s.receiving (.body [m.length] false) false := State.receiveCharacter_length (damaged := false) rfl hleast hmost
  have hbody := runAll_arriving_body hlow m.length (m.type :: m.sequence :: m.payload ++ [hiByte (crc m.body)]) []
    (by simp; omega)
  rw [m.characters_eq, runAll_arriving_cons hmarker hlow, runAll_arriving_cons hopen hlow, arriving, List.map_append]
  refine (runAll_append hbody _).trans ?_
  exact runAll_arriving_cons (State.receiveCharacter_lastCheck hlow hhunt hfits) hlow []

/-! ## The levels of TRX (R157) -/

/-- A character on TRX, from its start bit to its stop bit. -/
theorem charactersOn_character (value : Byte) (stop : Bool) (rest : List Bool) :
    charactersOn .looking (false :: ((List.range 8).map value.getLsbD ++ stop :: rest)) =
      (value, !stop) :: charactersOn (if stop then .looking else .waiting) rest := by
  have hbits := charactersOn_collecting [] ((List.range 8).map value.getLsbD) stop rest (by simp)
  rwa [List.nil_append, byteOfBits_bits] at hbits

/-- The levels of characters, back to back, complete those characters. -/
theorem charactersOn_characterLevels (characters : List Byte) :
    charactersOn .looking (characters.flatMap characterLevels) = characters.map fun c => (c, false) := by
  induction characters with
  | nil => rfl
  | cons c rest ih =>
    have hlevels : (c :: rest).flatMap characterLevels =
        false :: ((List.range 8).map c.getLsbD ++ true :: rest.flatMap characterLevels) := by
      simp [characterLevels]
    rw [hlevels, charactersOn_character, if_pos rfl, ih]
    rfl

/-- Where no mark is waited for, the levels of characters give those characters. -/
theorem Trunk.characterRows_characterLevels {t : Trunk} (h : t.awaitsMark = false) (characters : List Byte) :
    t.characterRows (characters.flatMap characterLevels) = arriving characters := by
  rw [Trunk.characterRows, h, if_neg (by decide), charactersOn_characterLevels, List.map_map]
  rfl

/-- Mark before a start bit gives nothing, and it ends a wait for mark. -/
theorem charactersOn_idle {waits : Bool} {idle : Nat} (h : waits = true → 0 < idle) (rest : List Bool) :
    charactersOn (if waits then .waiting else .looking) (List.replicate idle true ++ rest) =
      charactersOn .looking rest := by
  cases waits with
  | false => exact charactersOn_mark idle rest
  | true =>
    obtain ⟨n, rfl⟩ := Nat.exists_eq_add_of_lt (h rfl)
    rw [Nat.zero_add, List.replicate_succ]
    exact charactersOn_mark n rest

/-- Settles O6: the characters lead to the owner that the row leads to, and the levels of TRX give the characters. -/
theorem charactersMakeTheMessage : Obligations.CharactersMakeTheMessage := by
  unfold Obligations.CharactersMakeTheMessage
  refine ⟨fun s m hlow hhunt hfits => ?_, fun t value stop idle rest hidle => ?_, fun t n rest h => ⟨?_, ?_⟩⟩
  · have hrow : runAll (arriving m.characters) s = exec (decodeMessage m) s :=
      (runAll_arriving_characters hlow hhunt hfits).trans (exec_decodeMessage hfits s).symm
    exact ⟨hrow, fun hmark => by rw [Trunk.characterRows_characterLevels hmark, hrow]⟩
  · rw [Trunk.characterRows, charactersOn_idle hidle, charactersOn_character]
    cases stop <;> rfl
  · have hspace := charactersOn_space n []
    rw [List.append_nil] at hspace
    rw [Trunk.characterRows, h, if_pos rfl, hspace]
    rfl
  · rw [Trunk.characterRows, h, if_pos rfl, charactersOn_space]
    rfl

end Sys2Proof.Machine
end

section
/-! PROOFS. The front of the queue, and the rows that begin and end a COLD reset and end a break (O1, O20). -/

namespace Sys2Proof.Machine

/-! ## One step -/

theorem step_idle {s : State} (h : s.pending = []) : step s = .next s := by
  rw [step, h]

theorem step_front {s : State} {c : Instr} {rest : List Instr} (h : s.pending = c :: rest) :
    step s = exec c (s.withPending rest) := by
  rw [step, h]

/-- Settles O1: the queue is empty or has a front. -/
theorem stepRunsTheFrontCommand : Obligations.StepRunsTheFrontCommand := by
  unfold Obligations.StepRunsTheFrontCommand
  exact fun s c rest => ⟨step_front, step_idle⟩

/-! ## Starts (R165, R173, R177) -/

/-- Where RSTN is low its release raises STARTED (R173, R177). -/
theorem exec_rstnReleased {s : State} (h : s.rstnLow = true) :
    exec .rstnReleased s =
      .next ({ s with rstnLow := false, timer := 0, trunk := { s.trunk with receiver := .hunt } }.alerted
        (.started .cold s.trunk.rate)) :=
  congrArg Host.Outcome.next ((if_pos h).trans (State.alert_eq _ _))

theorem exec_rstnReleased_idle {s : State} (h : s.rstnLow = false) : exec .rstnReleased s = .next s :=
  congrArg Host.Outcome.next (if_neg (by simp [h]))

/-- The end of a break raises STARTED with the rate in force (R165). -/
theorem exec_breakEnd {s : State} (hlow : s.rstnLow = false) (h : s.trunk.receiver = .inBreak) :
    exec .breakEnd s =
      .next ({ s with trunk := { s.trunk with receiver := .hunt, awaitsMark := false } }.alerted
        (.started .linkBreak s.trunk.rate)) :=
  exec_running hlow rfl ((if_pos h).trans (State.alert_eq _ _))

theorem exec_breakEnd_idle {s : State} (h : s.trunk.receiver ≠ .inBreak) : exec .breakEnd s = .next s := by
  refine congrArg Host.Outcome.next ?_
  simp only [State.whileRunning, if_neg h, ite_self]

/-- Settles O20: each row by its own lemma, and the two rows of a COLD reset one after the other. -/
theorem startsAreAnnounced : Obligations.StartsAreAnnounced := by
  unfold Obligations.StartsAreAnnounced
  intro s
  have hcold : exec .coldReset s = .next s.resetCold := rfl
  have hreleased : exec .rstnReleased s.resetCold = _ := exec_rstnReleased rfl
  refine ⟨hcold, exec_rstnReleased, exec_rstnReleased_idle, ?_, exec_breakEnd, exec_breakEnd_idle⟩
  rw [runAll_cons hcold, runAll_cons hreleased]
  rfl

end Sys2Proof.Machine
end

section
/-! PROOFS. Sequenced requests that are duplicates, find no room, or are executed; the general commands (O12, O13,
O17). -/

namespace Sys2Proof.Machine

/-! ## Requests that are not executed (R180, R181) -/

/-- Settles O12: the memory answers a duplicate, on the state that has heard it. -/
theorem duplicatesComeFromMemory : Obligations.DuplicatesComeFromMemory := by
  unfold Obligations.DuplicatesComeFromMemory
  intro s i m hi hears hmemory
  obtain ⟨code, toSend, body, hrow⟩ := exec_request hi
  rw [hrow, s.onMessage_heard hears, s.heard.sequenced_duplicate code toSend body hmemory rfl]
  have hroom : s.heard.trunk.room = true ↔ s.HasRoom := Trunk.room_iff s.heard.trunk
  simp only [hroom, State.queueControl_none, State.overrun_eq]

/-- Settles O13: without room a request only counts, whatever the memory holds. -/
theorem requestsWithoutRoomAreIgnored : Obligations.RequestsWithoutRoomAreIgnored := by
  unfold Obligations.RequestsWithoutRoomAreIgnored
  intro s i sequence hi hears _ hroom
  obtain ⟨code, toSend, body, hrow⟩ := exec_request hi
  rw [hrow, s.onMessage_heard hears, s.heard.sequenced_no_room sequence code toSend body hroom, State.overrun_eq]

/-! ## Requests that are executed (R178) -/

/-- The row of an admitted request: its body runs on the state that has heard it, and its REPLY is stored and
queued. -/
theorem exec_request_admitted {s : State} {i : Instr} {sequence code : Byte} {toSend : Bool} {body : State → Executed}
    (hrow : exec i s = .next (s.onMessage fun t => t.sequenced sequence code toSend body)) (h : s.Admits sequence) :
    exec i s = .next (((body s.heard).state.withMemory
      (some ⟨sequence, replyOf sequence code toSend (body s.heard)⟩)).queueControl
      (.reply (replyOf sequence code toSend (body s.heard))) (body s.heard).rate) := by
  obtain ⟨hears, hroom, hnew⟩ := h
  rw [hrow, s.onMessage_heard hears, s.heard.sequenced_admitted code toSend body hroom hnew]

/-! ## IDENTIFY, GET_STATUS and SET_LINK (R186, R188, R189) -/

/-- A port's two bits of GET_STATUS's presence field hold its presence state (Table 10-5). -/
theorem presenceWord_extract (ports : Vector Port 8) (p : PortIx) :
    (presenceWord ports).extractLsb' (2 * p.val) 2 = ports[p].presence.code.setWidth 2 := by
  apply BitVec.eq_of_getLsbD_eq
  intro i hi
  have hport : (2 * p.val + i) / 2 = p.val := by omega
  have hbit : (2 * p.val + i) % 2 = i := by omega
  have hplace : 2 * p.val + i < 16 := by omega
  simp [presenceWord, hi, hplace, hport, hbit]

/-- GET_STATUS reports the state as it stands and clears the four trunk counters on request (R188). -/
theorem cmdGetStatus_ok (s : State) (clear : Bool) :
    cmdGetStatus [settingByte clear] s =
      answerOk (if clear = true then s.withTrunk s.trunk.clearCounters else s) s.report := by
  simp only [cmdGetStatus, setting?_settingByte, inRange]

/-- SET_LINK attaches the rate to its REPLY (R189). -/
theorem cmdSetLink_ok (s : State) (rate : LinkRate) : cmdSetLink [rate.code] s = ⟨s, .ok, [rate.code], some rate⟩ := by
  simp only [cmdSetLink, rate?_code, inRange]

/-- Settles O17: each command by what it gives on the state that has heard it. -/
theorem generalCommandsAnswer : Obligations.GeneralCommandsAnswer := by
  unfold Obligations.GeneralCommandsAnswer
  intro s sequence h
  refine ⟨?_, fun clear => ⟨presenceWord s.ports, presenceWord_extract s.ports, ?_⟩, fun rate => ?_⟩
  · exact exec_replied h (c := .identify) (body := cmdIdentify []) rfl rfl
  · refine (exec_replied h (c := .getStatus) rfl (cmdGetStatus_ok s.heard clear)).trans ?_
    cases clear <;> rfl
  · rw [exec_request_admitted rfl h, cmdSetLink_ok]
    rfl

end Sys2Proof.Machine
end

section
/-! PROOFS. The checks of a request, and what an executed request answers (O14, O15, O16). -/

namespace Sys2Proof.Machine

/-! ## Argument bytes in range, field by field (R194, R195, R199) -/

theorem wordOf_toNat (hi lo : Byte) : (wordOf hi lo).toNat = hi.toNat * 256 + lo.toNat := by
  rw [wordOf, BitVec.toNat_append, ← Nat.shiftLeft_add_eq_or_of_lt lo.isLt, Nat.shiftLeft_eq]

/-- The reserved bits 3 to 7 of a settings byte are clear (R199). -/
theorem settings_reserved (b : Byte) : b &&& 0xF8 = 0 ↔ b.toNat ≤ 7 := by
  revert b; decide

/-- The reserved bits 1 to 7 of LOAD_PATTERN's flags byte are clear (R201). -/
theorem patternFlags_reserved (b : Byte) : b &&& 0xFE = 0 ↔ b.toNat ≤ 1 := by
  revert b; decide

/-- Bit 7 and the reserved bits of an entry's first byte, as numbers (R200). -/
theorem entryFlags_toNat (b : Byte) :
    (b.getLsbD 7 = false ↔ b.toNat < 128) ∧ (b &&& 0x38 = 0 ↔ b.toNat / 8 % 8 = 0) := by
  revert b; decide

theorem bitVec_ne_zero_iff {w : Nat} (v : BitVec w) : v ≠ 0 ↔ 1 ≤ v.toNat := by
  rw [Nat.one_le_iff_ne_zero, not_iff_not, BitVec.toNat_eq, BitVec.ofNat_eq_ofNat, BitVec.toNat_ofNat, Nat.zero_mod]

theorem index?_isSome_le (n : Nat) (b : Byte) : (index? (n + 1) b).isSome = true ↔ b.toNat ≤ n :=
  (index?_isSome (n + 1) b).trans Nat.lt_succ_iff

/-- A value made of two readings exists where both do. -/
theorem isSome_bind_bind {α β γ : Type} (x : Option α) (y : Option β) (f : α → β → γ) :
    (x.bind fun a => y.bind fun b => some (f a b)).isSome = (x.isSome && y.isSome) := by
  cases x <;> cases y <;> rfl

/-- An action reads from its code and its argument bytes where they are in its ranges (Table 3-3). -/
theorem action?_isSome (code : BitVec 3) (first second : Byte) :
    (action? code first second).isSome = true ↔ actionInRange code.toNat first.toNat second.toNat = true := by
  have hcodes : ∀ c : BitVec 3, c = 0 ∨ c = 1 ∨ c = 2 ∨ c = 3 ∨ c = 4 ∨ c = 5 ∨ c = 6 ∨ c = 7 := by decide
  rcases hcodes code with rfl | rfl | rfl | rfl | rfl | rfl | rfl | rfl
  · exact iff_of_true rfl rfl
  · show ((index? 16 first).map Action.assert).isSome = true ↔ decide _ = true
    rw [Option.isSome_map, index?_isSome, decide_eq_true_iff]
  · show ((index? 16 first).map Action.withdraw).isSome = true ↔ decide _ = true
    rw [Option.isSome_map, index?_isSome, decide_eq_true_iff]
  · exact iff_of_true rfl rfl
  · show ((index? 8 first).bind fun t => (step? second).bind fun i => some (Action.tally t i)).isSome = true ↔ _
    rw [isSome_bind_bind]
    simp [actionInRange, index?_isSome, step?_isSome, and_assoc]
  · show ((index? 4 first).bind fun o => (index? 16 second).bind fun x => some (Action.signal o x)).isSome = true ↔ _
    rw [isSome_bind_bind]
    simp [actionInRange, index?_isSome]
  · show ((tag? first).map _).isSome = true ↔ decide _ = true
    rw [Option.isSome_map, tag?_isSome, decide_eq_true_iff]
  · exact iff_of_false Bool.false_ne_true Bool.false_ne_true

/-- The seven entry bytes of LOAD_SELECTOR give an entry where they are in range (R72, R200). -/
theorem selector?_isSome (b0 ports tag low high first second : Byte) :
    (selector? b0 ports tag low high first second).isSome = true ↔
      entryInRange b0 ports tag low high first second = true := by
  obtain ⟨hvalid, hreserved⟩ := entryFlags_toNat b0
  by_cases hb : b0.toNat < 128
  · rw [selector?_invalid (hvalid.2 hb)]
    simp [entryInRange, hb]
  · have hset : b0.getLsbD 7 = true := by simpa using mt hvalid.1 hb
    have hcode := action?_isSome (b0.setWidth 3) first second
    rw [BitVec.toNat_setWidth] at hcode
    have hentry : entryInRange b0 ports tag low high first second = true ↔
        (b0 &&& 0x38 = 0 ∧ ports ≠ 0 ∧ low ≤ high) ∧ (tag = 0xFF ∨ tag.toNat ≤ 6) ∧
          actionInRange (b0.toNat % 2 ^ 3) first.toNat second.toNat = true := by
      simp only [entryInRange, hb, hreserved, BitVec.le_def, decide_false, Bool.false_or, Bool.or_eq_true,
        Bool.and_eq_true, decide_eq_true_eq, bne_iff_ne, beq_iff_eq]
      tauto
    rw [hentry, selector?, if_pos hset]
    split_ifs with hr
    · show ((tagMatch? tag).bind fun t => (action? _ first second).bind fun a =>
        some (Selector.mk _ _ _ t _ _ a)).isSome = true ↔ _
      rw [isSome_bind_bind, Bool.and_eq_true, hcode, tagMatch?_isSome, and_iff_right hr]
    · exact iff_of_false Bool.false_ne_true fun h => hr h.1

theorem thresholdsOrdered_threshold (a b : Bool) (uh ul lh ll : Byte) :
    thresholdsOrdered (threshold a uh ul) (threshold b lh ll) =
      (!a || !b || decide ((wordOf lh ll).toInt < (wordOf uh ul).toInt)) := by
  cases a <;> cases b <;> rfl

theorem target?_isSome (a : Bool) (b : Byte) : (target? a b).isSome = true ↔ a = false ∨ b.toNat ≤ 15 := by
  cases a
  · simp [target?]
  · simp [target?, index?_isSome, Nat.lt_succ_iff]

/-- CONFIGURE_TALLY's settings are in range (R87). -/
theorem tallySettings?_isSome (flags uh ul lh ll h target : Byte) :
    (tallySettings? flags uh ul lh ll h target).isSome = true ↔
      flags.toNat ≤ 7 ∧ 1 ≤ h.toNat ∧ (flags.getLsbD 2 = false ∨ target.toNat ≤ 15) ∧
        ((flags.getLsbD 0 = false ∨ flags.getLsbD 1 = false) ∨ (wordOf lh ll).toInt < (wordOf uh ul).toInt) := by
  simp only [tallySettings?, settings_reserved, bitVec_ne_zero_iff, thresholdsOrdered_threshold, Bool.or_eq_true,
    Bool.not_eq_true', decide_eq_true_eq]
  split_ifs with hr
  · rw [Option.isSome_map, target?_isSome]
    tauto
  · exact iff_of_false Bool.false_ne_true fun ⟨hflags, hh, _, hordered⟩ => hr ⟨hflags, hh, hordered⟩

/-- LOAD_PATTERN's flags byte, where its reserved bits are clear, is the long-mark flag (R201). -/
theorem patternFlags_eq {flags : Byte} (h : flags.toNat ≤ 1) :
    (flags = 1 ↔ flags.getLsbD 0 = true) ∧ (flags = 0 ↔ flags.getLsbD 0 = false) := by
  revert flags; decide

/-- LOAD_PATTERN's pattern is in range (R92, R201). -/
theorem pattern?_isSome (mark space count : Word) (tone flags completion : Byte) :
    (pattern? mark space count tone flags completion).isSome = true ↔
      1 ≤ mark.toNat ∧ count.toNat ≤ 1000 ∧ tone.toNat ≤ 3 ∧ flags.toNat ≤ 1 ∧ absentOrBelow 16 completion = true ∧
        (flags = 1 ∨ 1 ≤ space.toNat) ∧ (flags = 0 ∨ 1 ≤ count.toNat) := by
  simp only [pattern?, patternFlags_reserved, bitVec_ne_zero_iff]
  split_ifs with hr
  · obtain ⟨hmark, hcount, hflags, hspace, hpulses⟩ := hr
    obtain ⟨hlong, hshort⟩ := patternFlags_eq hflags
    show ((tone? tone).bind fun t => (optionalIndex? 16 completion).bind fun l => some (Pattern.mk _ _ _ t _ l)).isSome
      = true ↔ _
    rw [isSome_bind_bind, Bool.and_eq_true, tone?_isSome, optionalIndex?_isSome, hlong, hshort]
    exact ⟨fun ⟨htone, hlevel⟩ => ⟨hmark, hcount, htone, hflags, hlevel, hspace, hpulses⟩,
      fun ⟨_, _, htone, _, hlevel, _, _⟩ => ⟨htone, hlevel⟩⟩
  · refine iff_of_false Bool.false_ne_true fun ⟨hmark, hcount, _, hflags, _, hspace, hpulses⟩ => hr ?_
    obtain ⟨hlong, hshort⟩ := patternFlags_eq hflags
    exact ⟨hmark, hcount, hflags, hspace.imp_left hlong.1, hpulses.imp_left hshort.1⟩

/-- CONFIGURE_PORT's configuration is in range (R151). -/
theorem portConfig?_isSome (settings : Byte) (limit : Word) (presence fault : Byte) :
    (portConfig? settings limit presence fault).isSome = true ↔
      settings.toNat ≤ 7 ∧ silenceLimitOk limit.toNat = true ∧ absentOrBelow 16 presence = true ∧
        absentOrBelow 16 fault = true := by
  rw [← and_assoc]
  simp only [portConfig?, settings_reserved]
  by_cases hr : settings.toNat ≤ 7 ∧ silenceLimitOk limit.toNat = true
  · rw [if_pos hr]
    show ((optionalIndex? 16 presence).bind fun p => (optionalIndex? 16 fault).bind fun f =>
      some (PortConfig.mk _ _ _ _ p f)).isSome = true ↔ _
    rw [isSome_bind_bind, Bool.and_eq_true, optionalIndex?_isSome, optionalIndex?_isSome, and_iff_right hr]
  · rw [if_neg hr]
    exact iff_of_false Bool.false_ne_true fun h => hr h.1

theorem one_two_or_three_iff (b : Byte) : (b = 1 ∨ b = 2 ∨ b = 3) ↔ 1 ≤ b.toNat ∧ b.toNat ≤ 3 := by
  revert b; decide

/-- RESET names a scope of 1 to 3 (Table 10-7). -/
theorem resetOf_isSome (b : Byte) : (resetOf b).isSome = true ↔ 1 ≤ b.toNat ∧ b.toNat ≤ 3 := by
  rw [← one_two_or_three_iff]
  unfold resetOf arbiterScope trafficScope configScope
  split_ifs <;> simp_all

/-- SET_MASKS names an operation of 1 to 3 (Table 10-7). -/
theorem maskOperation?_isSome (b : Byte) (set : Word) :
    (maskOperation? b set).isSome = true ↔ 1 ≤ b.toNat ∧ b.toNat ≤ 3 := by
  rw [← one_two_or_three_iff]
  unfold maskOperation? assignOperation maskOperation unmaskOperation
  split_ifs <;> simp_all

/-- PORT_CONTROL names an action of 1 to 4 (Table 10-7). -/
theorem controlOf_isSome (b : Byte) : (controlOf b).isSome = true ↔ 1 ≤ b.toNat ∧ b.toNat ≤ 4 := by
  have hactions : ∀ b : Byte, (b = 1 ∨ b = 2 ∨ b = 3 ∨ b = 4) ↔ 1 ≤ b.toNat ∧ b.toNat ≤ 4 := by decide
  rw [← hactions]
  unfold controlOf enableAction disableAction probeNowAction flushTxAction
  split_ifs <;> simp_all

/-! ## What a request answers (R183 to R185, Table 10-1) -/

/-- A request's checks have passed: it was carried out, with at most 36 bytes of result data, or refused for another
reason than a range. -/
def Executed.PassedChecks (s : State) (e : Executed) : Prop :=
  (e.status = .ok ∧ e.data.length ≤ 36) ∨ ∃ status, status ≠ .range ∧ e = refuse s status

/-- A request is answered RANGE, with nothing changed, where its ranges do not hold, and has passed its checks where
they do. -/
def Executed.RangeChecked (s : State) (ranges : Prop) (e : Executed) : Prop :=
  (ranges → e.PassedChecks s) ∧ (¬ ranges → e = refuse s .range)

/-- A request is carried out, with at most 36 bytes of result data, or refused with nothing changed (R184, R185). -/
def Executed.Answers (s : State) (e : Executed) : Prop :=
  (e.status = .ok ∧ e.data.length ≤ 36) ∨ ∃ status, e = refuse s status

theorem refuse_answers (s : State) (status : Status) : (refuse s status).Answers s := .inr ⟨status, rfl⟩

section
variable {s t : State} {e : Executed} {P Q : Prop}

theorem Executed.PassedChecks.not_range (h : e.PassedChecks s) : e.status ≠ .range := by
  rcases h with ⟨hok, -⟩ | ⟨status, hne, rfl⟩
  · rw [hok]; decide
  · exact hne

theorem Executed.RangeChecked.answers (h : e.RangeChecked s P) : e.Answers s := by
  obtain ⟨hpass, hrange⟩ := h
  by_cases hP : P
  · rcases hpass hP with hok | ⟨status, -, he⟩
    · exact .inl hok
    · exact .inr ⟨status, he⟩
  · exact .inr ⟨_, hrange hP⟩

theorem Executed.RangeChecked.of_iff (h : e.RangeChecked s Q) (hPQ : P ↔ Q) : e.RangeChecked s P := by
  rwa [hPQ]

theorem Executed.PassedChecks.rangeChecked (h : e.PassedChecks s) : e.RangeChecked s True :=
  ⟨fun _ => h, fun hn => absurd trivial hn⟩

theorem answerOk_passed {data : List Byte} (h : data.length ≤ 36) : (answerOk t data).PassedChecks s := .inl ⟨rfl, h⟩

theorem refuse_passed {status : Status} (h : status ≠ .range) : (refuse s status).PassedChecks s :=
  .inr ⟨status, h, rfl⟩

/-- A command without arguments has no range to check. -/
theorem answerOk_rangeChecked {data : List Byte} (h : data.length ≤ 36) :
    (answerOk t data).RangeChecked s (true = true) :=
  (answerOk_passed h).rangeChecked.of_iff (iff_true_intro rfl)

/-- One more field that is read before the rest: its range, and then theirs. -/
theorem inRange_rangeChecked {α : Type} {x : Option α} {k : α → Executed} (hx : x.isSome = true ↔ P)
    (hk : ∀ a, x = some a → (k a).RangeChecked s Q) : (inRange s x k).RangeChecked s (P ∧ Q) := by
  rw [← hx]
  cases x with
  | none => exact ⟨fun h => absurd h.1 Bool.false_ne_true, fun _ => rfl⟩
  | some a => exact (hk a rfl).of_iff (and_iff_right rfl)

/-- The last field that is read. -/
theorem inRange_rangeChecked_last {α : Type} {x : Option α} {k : α → Executed} (hx : x.isSome = true ↔ P)
    (hk : ∀ a, x = some a → (k a).PassedChecks s) : (inRange s x k).RangeChecked s P :=
  (inRange_rangeChecked hx fun a ha => (hk a ha).rangeChecked).of_iff (and_true P).symm.to_iff

/-- A request whose last check is one of its own, not the reading of a field. -/
theorem ite_rangeChecked {c : Prop} [Decidable c] {data : List Byte} (h : data.length ≤ 36) :
    (if c then answerOk t data else refuse s .range).RangeChecked s c := by
  split_ifs with hc
  · exact (answerOk_passed h).rangeChecked.of_iff (iff_true_intro hc)
  · exact ⟨fun h => absurd h hc, fun _ => rfl⟩

end

/-! ## The lengths of the reports (Tables 10-4 to 10-6) -/

theorem recordBytes_length (r : Option Record) : (recordBytes r).length = 14 := by cases r <;> rfl

theorem Arbiter.levelReport_length (a : Arbiter) (l : LevelIx) : (a.levelReport l).length = 32 := by
  simp only [Arbiter.levelReport, List.length_append, recordBytes_length, List.length_cons, List.length_nil]

theorem Arbiter.stackBytes_length (a : Arbiter) : a.stackBytes.length = 16 := by
  simp [Arbiter.stackBytes]

theorem Arbiter.report_length (a : Arbiter) : a.report.length = 36 := by
  simp [Arbiter.report, number16, word, a.stackBytes_length]

/-! ## Each command's ranges -/

section
variable (s : State)

theorem controlOf_passed {action : Byte} {f : PortIx → State → Executed} (h : controlOf action = some f)
    (p : PortIx) : (f p s).PassedChecks s := by
  have hanswer (t : State) (n : Nat) : (answerControl t p n).PassedChecks s := answerOk_passed (by simp)
  unfold controlOf at h
  split_ifs at h <;> cases h
  · unfold controlEnable; split <;> exact hanswer _ _
  · unfold controlDisable; split <;> exact hanswer _ _
  · unfold controlProbeNow
    split
    · exact hanswer _ _
    · exact refuse_passed (by decide)
  · exact hanswer _ _

theorem cmdGetStatus_rangeChecked (option : Byte) :
    (cmdGetStatus [option] s).RangeChecked s (option.toNat ≤ 1) :=
  inRange_rangeChecked_last (setting?_isSome option) fun clear _ => answerOk_passed (by simp [State.report, word])

theorem cmdSetLink_rangeChecked (rate : Byte) :
    (cmdSetLink [rate] s).RangeChecked s (rate.toNat ≤ 7) :=
  inRange_rangeChecked_last (rate?_isSome rate) fun r _ => .inl ⟨rfl, by simp⟩

theorem cmdReset_rangeChecked (scope : Byte) :
    (cmdReset [scope] s).RangeChecked s (1 ≤ scope.toNat ∧ scope.toNat ≤ 3) :=
  inRange_rangeChecked_last (resetOf_isSome scope) fun _ _ => answerOk_passed (by simp)

theorem cmdConfigureLevel_rangeChecked (level mask auto : Byte) :
    (cmdConfigureLevel [level, mask, auto] s).RangeChecked s (level.toNat ≤ 15 ∧ mask.toNat ≤ 1 ∧ auto.toNat ≤ 1) :=
  inRange_rangeChecked (index?_isSome_le 15 level) fun l _ =>
    inRange_rangeChecked (setting?_isSome mask) fun masked _ =>
    inRange_rangeChecked_last (setting?_isSome auto) fun autoDone _ => answerOk_passed (by simp)

theorem cmdConfigureBand_rangeChecked (band rotate point : Byte) :
    (cmdConfigureBand [band, rotate, point] s).RangeChecked s
      (band.toNat ≤ 3 ∧ rotate.toNat ≤ 1 ∧ point.toNat ≤ 3) :=
  inRange_rangeChecked (index?_isSome_le 3 band) fun b _ =>
    inRange_rangeChecked (setting?_isSome rotate) fun rotation _ =>
    inRange_rangeChecked_last (index?_isSome_le 3 point) fun pointer _ => answerOk_passed (by simp)

theorem cmdSetMasks_rangeChecked (operation hi lo : Byte) :
    (cmdSetMasks [operation, hi, lo] s).RangeChecked s (1 ≤ operation.toNat ∧ operation.toNat ≤ 3) :=
  inRange_rangeChecked_last (maskOperation?_isSome operation _) fun f _ => answerOk_passed (by simp [word])

theorem cmdAssertLevel_rangeChecked (level value : Byte) :
    (cmdAssertLevel [level, value] s).RangeChecked s (level.toNat ≤ 15) :=
  inRange_rangeChecked_last (index?_isSome_le 15 level) fun l _ => answerOk_passed (by simp)

theorem cmdWithdrawLevel_rangeChecked (level : Byte) :
    (cmdWithdrawLevel [level] s).RangeChecked s (level.toNat ≤ 15) :=
  inRange_rangeChecked_last (index?_isSome_le 15 level) fun l _ => answerOk_passed (by simp)

theorem cmdReadLevel_rangeChecked (level : Byte) :
    (cmdReadLevel [level] s).RangeChecked s (level.toNat ≤ 15) :=
  inRange_rangeChecked_last (index?_isSome_le 15 level) fun l _ =>
    answerOk_passed (by simp [Arbiter.levelReport_length])

theorem cmdSetArbiter_rangeChecked (mode hi lo lapse : Byte) :
    (cmdSetArbiter [mode, hi, lo, lapse] s).RangeChecked s
      (mode.toNat ≤ 2 ∧ limitsOk (wordOf hi lo).toNat lapse.toNat = true) :=
  inRange_rangeChecked (mode?_isSome mode) fun m _ => ite_rangeChecked (by simp)

theorem cmdLoadSelector_rangeChecked (index b0 ports tag low high first second : Byte) :
    (cmdLoadSelector [index, b0, ports, tag, low, high, first, second] s).RangeChecked s
      (index.toNat ≤ 47 ∧ entryInRange b0 ports tag low high first second = true) :=
  inRange_rangeChecked (index?_isSome_le 47 index) fun i _ =>
    inRange_rangeChecked_last (selector?_isSome b0 ports tag low high first second) fun e _ =>
    answerOk_passed (by simp [Classifier.shadowReport, word])

theorem cmdReadSelector_rangeChecked (bank index option : Byte) :
    (cmdReadSelector [bank, index, option] s).RangeChecked s
      (bank.toNat ≤ 1 ∧ index.toNat ≤ 47 ∧ option.toNat ≤ 1) :=
  inRange_rangeChecked (bank?_isSome bank) fun which _ => inRange_rangeChecked (index?_isSome_le 47 index) fun i _ =>
    inRange_rangeChecked_last (setting?_isSome option) fun clear _ =>
    answerOk_passed (by simp [word, Selector.bytes])

theorem cmdConfigureTally_rangeChecked (tally flags uh ul lh ll h target : Byte) :
    (cmdConfigureTally [tally, flags, uh, ul, lh, ll, h, target] s).RangeChecked s
      (tally.toNat ≤ 7 ∧ flags.toNat ≤ 7 ∧ 1 ≤ h.toNat ∧ (flags.getLsbD 2 = false ∨ target.toNat ≤ 15) ∧
        ((flags.getLsbD 0 = false ∨ flags.getLsbD 1 = false) ∨ (wordOf lh ll).toInt < (wordOf uh ul).toInt)) :=
  inRange_rangeChecked (index?_isSome_le 7 tally) fun i _ =>
    inRange_rangeChecked_last (tallySettings?_isSome flags uh ul lh ll h target) fun x _ =>
    answerOk_passed (by simp [signed16, word])

theorem cmdReadTally_rangeChecked (tally option : Byte) :
    (cmdReadTally [tally, option] s).RangeChecked s (tally.toNat ≤ 7 ∧ option.toNat ≤ 1) :=
  inRange_rangeChecked (index?_isSome_le 7 tally) fun i _ =>
    inRange_rangeChecked_last (setting?_isSome option) fun clear _ =>
    answerOk_passed (by simp [Tally.report, signed16, word])

theorem cmdLoadPattern_rangeChecked (index mh ml sh sl ch cl tone flags completion : Byte) :
    (cmdLoadPattern [index, mh, ml, sh, sl, ch, cl, tone, flags, completion] s).RangeChecked s
      (index.toNat ≤ 15 ∧ 1 ≤ (wordOf mh ml).toNat ∧ (wordOf ch cl).toNat ≤ 1000 ∧ tone.toNat ≤ 3 ∧ flags.toNat ≤ 1 ∧
        absentOrBelow 16 completion = true ∧ (flags = 1 ∨ 1 ≤ (wordOf sh sl).toNat) ∧
        (flags = 0 ∨ 1 ≤ (wordOf ch cl).toNat)) :=
  inRange_rangeChecked (index?_isSome_le 15 index) fun i _ =>
    inRange_rangeChecked_last (pattern?_isSome _ _ _ tone flags completion) fun x _ => answerOk_passed (by simp)

/-- An unloaded pattern is refused too, but not for a range (R97). -/
theorem cmdStartSignal_rangeChecked (output pattern : Byte) :
    (cmdStartSignal [output, pattern] s).RangeChecked s (output.toNat ≤ 3 ∧ pattern.toNat ≤ 15) := by
  refine inRange_rangeChecked (index?_isSome_le 3 output) fun o _ =>
    inRange_rangeChecked_last (index?_isSome_le 15 pattern) fun i _ => ?_
  split
  · exact refuse_passed (by decide)
  · exact answerOk_passed (by unfold Output.startReport; split <;> simp)

theorem cmdStopSignal_rangeChecked (output : Byte) :
    (cmdStopSignal [output] s).RangeChecked s (output.toNat ≤ 3) :=
  inRange_rangeChecked_last (index?_isSome_le 3 output) fun o _ => answerOk_passed (by simp)

theorem cmdReadSignal_rangeChecked (output : Byte) :
    (cmdReadSignal [output] s).RangeChecked s (output.toNat ≤ 3) :=
  inRange_rangeChecked_last (index?_isSome_le 3 output) fun o _ =>
    answerOk_passed (by simp [Output.report, number16, word])

theorem cmdConfigurePort_rangeChecked (port settings hi lo presence fault : Byte) :
    (cmdConfigurePort [port, settings, hi, lo, presence, fault] s).RangeChecked s
      (port.toNat ≤ 7 ∧ settings.toNat ≤ 7 ∧ silenceLimitOk (wordOf hi lo).toNat = true ∧
        absentOrBelow 16 presence = true ∧ absentOrBelow 16 fault = true) :=
  inRange_rangeChecked (index?_isSome_le 7 port) fun p _ =>
    inRange_rangeChecked_last (portConfig?_isSome settings _ presence fault) fun c _ => answerOk_passed (by simp)

theorem cmdPortControl_rangeChecked (port action : Byte) :
    (cmdPortControl [port, action] s).RangeChecked s (port.toNat ≤ 7 ∧ 1 ≤ action.toNat ∧ action.toNat ≤ 4) :=
  inRange_rangeChecked (index?_isSome_le 7 port) fun p _ =>
    inRange_rangeChecked_last (controlOf_isSome action) fun _ hf => controlOf_passed s hf p

theorem cmdReadPort_rangeChecked (port option : Byte) :
    (cmdReadPort [port, option] s).RangeChecked s (port.toNat ≤ 7 ∧ option.toNat ≤ 1) :=
  inRange_rangeChecked (index?_isSome_le 7 port) fun p _ =>
    inRange_rangeChecked_last (setting?_isSome option) fun clear _ =>
    answerOk_passed (by simp [Port.report, Statistics.bytes, word])

/-- A command of the right length is answered RANGE exactly when an argument is out of its range (R185, R195): the two
forms of its ranges agree. -/
theorem runCommand_rangeChecked (c : Command) (arguments : List Byte) (h : arguments.length = c.argumentLength) :
    (runCommand c arguments s).RangeChecked s (c.inRange arguments = true) := by
  refine match c, arguments, h with
  | .identify, [], _ => answerOk_rangeChecked (by decide)
  | .getStatus, [option], _ => (cmdGetStatus_rangeChecked s option).of_iff decide_eq_true_iff
  | .setLink, [rate], _ => (cmdSetLink_rangeChecked s rate).of_iff decide_eq_true_iff
  | .reset, [scope], _ => (cmdReset_rangeChecked s scope).of_iff ?_
  | .configureLevel, [level, mask, auto], _ => (cmdConfigureLevel_rangeChecked s level mask auto).of_iff ?_
  | .configureBand, [band, rotate, point], _ => (cmdConfigureBand_rangeChecked s band rotate point).of_iff ?_
  | .setMasks, [operation, hi, lo], _ => (cmdSetMasks_rangeChecked s operation hi lo).of_iff ?_
  | .assertLevel, [level, value], _ => (cmdAssertLevel_rangeChecked s level value).of_iff decide_eq_true_iff
  | .withdrawLevel, [level], _ => (cmdWithdrawLevel_rangeChecked s level).of_iff decide_eq_true_iff
  | .readLevel, [level], _ => (cmdReadLevel_rangeChecked s level).of_iff decide_eq_true_iff
  | .setArbiter, [mode, hi, lo, lapse], _ => (cmdSetArbiter_rangeChecked s mode hi lo lapse).of_iff ?_
  | .readArbiter, [], _ => answerOk_rangeChecked (by rw [Arbiter.report_length])
  | .loadSelector, [index, b0, ports, tag, low, high, first, second], _ =>
    (cmdLoadSelector_rangeChecked s index b0 ports tag low high first second).of_iff ?_
  | .clearShadow, [], _ => answerOk_rangeChecked (by simp [Classifier.shadowReport, word])
  | .copyActive, [], _ => answerOk_rangeChecked (by simp [Classifier.shadowReport, word])
  | .commitSelectors, [], _ => answerOk_rangeChecked (by simp [word])
  | .readSelector, [bank, index, option], _ => (cmdReadSelector_rangeChecked s bank index option).of_iff ?_
  | .configureTally, [tally, flags, uh, ul, lh, ll, h, target], _ =>
    (cmdConfigureTally_rangeChecked s tally flags uh ul lh ll h target).of_iff ?_
  | .readTally, [tally, option], _ => (cmdReadTally_rangeChecked s tally option).of_iff ?_
  | .loadPattern, [index, mh, ml, sh, sl, ch, cl, tone, flags, completion], _ =>
    (cmdLoadPattern_rangeChecked s index mh ml sh sl ch cl tone flags completion).of_iff ?_
  | .startSignal, [output, pattern], _ => (cmdStartSignal_rangeChecked s output pattern).of_iff ?_
  | .stopSignal, [output], _ => (cmdStopSignal_rangeChecked s output).of_iff decide_eq_true_iff
  | .readSignal, [output], _ => (cmdReadSignal_rangeChecked s output).of_iff decide_eq_true_iff
  | .configurePort, [port, settings, hi, lo, presence, fault], _ =>
    (cmdConfigurePort_rangeChecked s port settings hi lo presence fault).of_iff ?_
  | .portControl, [port, action], _ => (cmdPortControl_rangeChecked s port action).of_iff ?_
  | .readPort, [port, option], _ => (cmdReadPort_rangeChecked s port option).of_iff ?_
  all_goals
    simp only [Command.inRange, limitsOk, silenceLimitOk, wordOf_toNat, Bool.and_eq_true, Bool.or_eq_true,
      Bool.not_eq_true', beq_iff_eq, decide_eq_true_eq, and_assoc]

end

/-- A command of another length is answered BAD_LENGTH (R185, R199). -/
theorem runCommand_badLength (s : State) (c : Command) {arguments : List Byte}
    (h : arguments.length ≠ c.argumentLength) : runCommand c arguments s = refuse s .badLength := by
  cases c <;> simp only [runCommand, cmdIdentify, cmdGetStatus, cmdSetLink, cmdReset, cmdConfigureLevel,
    cmdConfigureBand, cmdSetMasks, cmdAssertLevel, cmdWithdrawLevel, cmdReadLevel, cmdSetArbiter, cmdReadArbiter, cmdLoadSelector,
    cmdClearShadow, cmdCopyActive, cmdCommitSelectors, cmdReadSelector, cmdConfigureTally, cmdReadTally, cmdLoadPattern,
    cmdStartSignal, cmdStopSignal, cmdReadSignal, cmdConfigurePort, cmdPortControl, cmdReadPort]
  all_goals
    split
    · exact absurd rfl h
    · rfl

theorem cmdSend_answers (sequence port tag data confirm : Byte) (s : State) :
    (cmdSend sequence port tag data confirm s).Answers s := by
  refine (inRange_rangeChecked (index?_isSome_le 7 port) fun p _ => inRange_rangeChecked (tag?_isSome tag) fun t _ =>
    inRange_rangeChecked_last (setting?_isSome confirm) fun confirmed _ => ?_).answers
  dsimp only
  split_ifs
  · exact refuse_passed (by decide)
  · exact refuse_passed (by decide)
  · exact refuse_passed (by decide)
  all_goals exact answerOk_passed (by simp)

theorem runCommand_answers (c : Command) (arguments : List Byte) (s : State) :
    (runCommand c arguments s).Answers s := by
  by_cases h : arguments.length = c.argumentLength
  · exact (runCommand_rangeChecked s c arguments h).answers
  · rw [runCommand_badLength s c h]
    exact refuse_answers s _

theorem cmdAny_answers (code : Byte) (arguments : List Byte) (s : State) : (cmdAny code arguments s).Answers s := by
  unfold cmdAny
  split
  · exact refuse_answers s _
  · exact runCommand_answers _ arguments s

/-! ## The rows (R178 to R185) -/

/-- Every row that is a sequenced request is taken by the request unit, with a body that answers. -/
theorem exec_request_answers {i : Instr} {sequence : Byte} (h : i.requestSequence = some sequence) :
    ∃ code toSend body, (∀ s, exec i s = .next (s.onMessage fun t => t.sequenced sequence code toSend body)) ∧
      ∀ s, (body s).Answers s := by
  have command {i : Instr} (c : Command) (arguments : List Byte)
      (hrow : ∀ s, exec i s = .next (s.command c sequence (runCommand c arguments))) :
      ∃ code toSend body, (∀ s, exec i s = .next (s.onMessage fun t => t.sequenced sequence code toSend body)) ∧
        ∀ s, (body s).Answers s :=
    ⟨c.code, false, runCommand c arguments, hrow, runCommand_answers c arguments⟩
  cases i <;> simp only [Instr.requestSequence, Option.some.injEq, reduceCtorEq] at h <;> subst h
  case send sequence port tag data confirm =>
    exact ⟨0, true, _, fun _ => rfl, cmdSend_answers sequence port tag data confirm⟩
  case commandUnknown sequence code arguments => exact ⟨code, false, _, fun _ => rfl, cmdAny_answers code arguments⟩
  all_goals exact command _ _ fun _ => rfl

theorem Reply.payload_length (r : Reply) : (ControlMessage.reply r).payload.length = r.data.length + 4 := rfl

/-- Settles O14: the request was carried out, or refused and nothing but its REPLY is left of it. -/
theorem refusedRequestsChangeNothing : Obligations.RefusedRequestsChangeNothing := by
  unfold Obligations.RefusedRequestsChangeNothing
  intro s i sequence hi h
  obtain ⟨code, toSend, body, hrow, hanswers⟩ := exec_request_answers hi
  refine ⟨_, replyOf sequence code toSend (body s.heard), exec_request_admitted (hrow s) h, rfl, rfl, rfl, ?_, ?_, ?_⟩
  · simp
  · rw [Reply.payload_length]
    exact Nat.le_add_left 4 _
  · rw [Reply.payload_length]
    rcases hanswers s.heard with ⟨hok, hlength⟩ | ⟨status, he⟩
    · exact ⟨Nat.add_le_add_right hlength 4, fun hne => absurd hok hne⟩
    · rw [he]
      exact ⟨Nat.le_of_ble_eq_true rfl, fun _ => ⟨rfl, rfl⟩⟩

/-- A code that is not in Table 10-4 names no command. -/
theorem commandOf_none {code : Byte} (h : code.toNat ∉ [1, 2, 3, 4, 16, 17, 18, 19, 20, 21, 24, 25, 32, 33, 34, 35, 36,
      40, 41, 48, 49, 50, 51, 56, 57, 58]) : commandOf code = none := by
  cases hc : commandOf code with
  | none => rfl
  | some c =>
    obtain rfl := code_of_commandOf hc
    refine absurd ?_ h
    cases c <;> decide

/-- Settles O15: the code names no command, or the command's arguments do not have its length. -/
theorem codeAndLengthAreChecked : Obligations.CodeAndLengthAreChecked := by
  unfold Obligations.CodeAndLengthAreChecked
  intro s sequence arguments h
  refine ⟨fun code hcode => ?_, fun c hlength => ?_⟩
  · have hbody : cmdAny code arguments s.heard = refuse s.heard .unknown := by
      rw [cmdAny, commandOf_none hcode]
    rw [exec_request_admitted rfl h, hbody]
    rfl
  · exact exec_commandRow_replied h c arguments (runCommand_badLength s.heard c hlength)

/-- Settles O16: a command of the right length, by whether its ranges hold. -/
theorem rangeIsExact : Obligations.RangeIsExact := by
  unfold Obligations.RangeIsExact
  intro s c sequence arguments h hlength
  obtain ⟨hpass, hrange⟩ := runCommand_rangeChecked s.heard c arguments hlength
  refine ⟨fun hout => ?_, fun hin => ?_⟩
  · exact exec_commandRow_replied h c arguments (hrange (Bool.eq_false_iff.1 hout))
  · exact ⟨_, replyOf sequence c.code false (runCommand c arguments s.heard),
      exec_request_admitted (exec_commandRow c sequence arguments s) h, rfl, (hpass hin).not_range⟩

end Sys2Proof.Machine
end
